-- ==== Sys2Proof/Word.lean ====
section
/-! DEFINITION. The words of the x87 execution engine: bytes, addresses, the 16-bit words of the unit, and the
80-bit extended-precision value (00_scope.md R6, R9, R10). -/

namespace Sys2Proof

/-- One byte (20_memory.md R70). -/
abbrev Byte := BitVec 8

/-- A linear address of the host, 32 bits wide (20_memory.md R70). -/
abbrev Addr := BitVec 32

/-- A control, status or tag word, or an environment word (00_scope.md R6). -/
abbrev Word := BitVec 16

/-- The index `i` of `ST(i)`, or the number of a physical slot: arithmetic on it is modulo 8 (10_state.md R21). -/
abbrev Slot := BitVec 3

/-- An extended-precision value `high:low` (00_scope.md R10). -/
structure Fx80 where
  high : BitVec 16
  low : BitVec 64
deriving DecidableEq, Repr

end Sys2Proof
end

