-- ==== Sys2Proof/Config.lean ====
section
/-! DEFINITION. What the spec leaves to an implementation (00_scope.md R8). The parameters that are data stand in the
structure `Params`, which `State` carries, so that a statement over every state covers every value of them. The
transcendental functions and the free values are constants with no body: nothing can be proved of their values. -/

namespace Sys2Proof

/-- Which quiet NaN a kernel operation returns, the parameter NAN_SELECT (40_kernel_and_protocol.md R151): the spec's
default (the larger significand, ties to the positive one), or some other quiet NaN
(93_implementation_defined.md U4: "only sign and payload differ, every candidate is a quiet NaN"). -/
inductive NanSelect
  | largerSignificand
  | anyQuiet
deriving DecidableEq, Repr

/-- The parameters of 00_scope.md R8 that are plain data. No step changes them. -/
structure Params where
  /-- FCLEX_CLEARS_BUSY (47_control.md R424). -/
  fclexClearsBusy : Bool
  /-- L2T_NEAREST_INCREMENTED (42_load_store.md R236). -/
  l2tNearestIncremented : Bool
  /-- FSTENV_MASKS (48_environment.md R452). -/
  fstenvMasks : Bool
  /-- FSAVE_REINIT (48_environment.md R455). -/
  fsaveReinit : Bool
  /-- NAN_SELECT (40_kernel_and_protocol.md R151). -/
  nanSelect : NanSelect
  /-- CYCLES[op], by the number of the row of opcode_table.json; a row past the end counts 0
  (70_reset_and_hazards.md R556). -/
  cycles : List Nat
deriving DecidableEq, Repr

/-- DESIGN CHOICE (notes/assumptions/6.md, unsafe): the values the spec recommends where R8 gives one; the cycle
constants, for which it gives none, are all 0. -/
def Params.recommended : Params where
  fclexClearsBusy := true
  l2tNearestIncremented := true
  fstenvMasks := false
  fsaveReinit := false
  nanSelect := .largerSignificand
  cycles := []

/-- The `n`-th free value, of `w` bits: a result, flag or code the spec calls unspecified (notes/assumptions/17.md).
Safe: it has no body. -/
opaque Config.freeBits (w n : Nat) : BitVec w

/-- The quiet NaN chosen under `NanSelect.anyQuiet` from the images of the two operands, 0 for an operand that is no NaN.
That nothing else enters the choice is the model's (DESIGN CHOICE, notes/assumptions/7.md, unsafe); the value is free. -/
opaque Config.otherNan (a b : BitVec 80) : BitVec 80

/-- TRANS_2XM1 away from the special values of 46_transcendental.md R401 (notes/assumptions/11.md). Safe. -/
opaque Config.trans2xm1 (x : BitVec 64) : BitVec 64

/-- TRANS_LOG2 away from the special values (R401). -/
opaque Config.transLog2 (x : BitVec 64) : BitVec 64

/-- TRANS_LOG2P1 away from the special values (R401). -/
opaque Config.transLog2p1 (x : BitVec 64) : BitVec 64

/-- TRANS_TAN away from the special values (R401). -/
opaque Config.transTan (x : BitVec 64) : BitVec 64

/-- TRANS_SIN away from the special values (R401). -/
opaque Config.transSin (x : BitVec 64) : BitVec 64

/-- TRANS_COS away from the special values (R401). -/
opaque Config.transCos (x : BitVec 64) : BitVec 64

/-- TRANS_ATAN2(y, x) away from the special values (R401). -/
opaque Config.transAtan2 (y x : BitVec 64) : BitVec 64

end Sys2Proof
end

