-- ==== Sys2Proof/Syntax.lean ====
section
/-! DEFINITION. The instructions of the block, one constructor per row of spec/opcode_table.json, in the table's order.
A register form takes the index of its operand `ST(i)`; a memory form takes its memory operand (30_encoding.md R104). -/

namespace Sys2Proof

/-- The memory operand of a memory form: the `mod` and `rm` bits of the ModR/M byte, which only `GetEA` looks at
(30_encoding.md R101), and the effective address `GetEA` gives for them (20_memory.md R71). -/
structure MemOperand where
  mod : BitVec 2
  rm : BitVec 3
  ea : Addr
deriving DecidableEq, Repr

/-- An already-located instruction, the triple of 10_state.md R30: the escape byte that selects one of the eight entry
points, the ModR/M byte, and the effective address of a memory form (30_encoding.md R100). -/
structure Located where
  esc : Byte
  modrm : Byte
  ea : Addr
deriving DecidableEq, Repr

/-- The instructions (30_encoding.md R106 to R113, R119). -/
inductive Instr
  /-- `FADD m32real` (43_arithmetic.md R275). -/
  | faddM32real (m : MemOperand)
  /-- `FMUL m32real` (43_arithmetic.md R276). -/
  | fmulM32real (m : MemOperand)
  /-- `FCOM m32real` (45_compare.md R353). -/
  | fcomM32real (m : MemOperand)
  /-- `FCOMP m32real` (45_compare.md R354). -/
  | fcompM32real (m : MemOperand)
  /-- `FSUB m32real` (43_arithmetic.md R277). -/
  | fsubM32real (m : MemOperand)
  /-- `FSUBR m32real` (43_arithmetic.md R278). -/
  | fsubrM32real (m : MemOperand)
  /-- `FDIV m32real` (43_arithmetic.md R279). -/
  | fdivM32real (m : MemOperand)
  /-- `FDIVR m32real` (43_arithmetic.md R280). -/
  | fdivrM32real (m : MemOperand)
  /-- `FADD ST,ST(i)` (43_arithmetic.md R299). -/
  | faddStSti (i : Slot)
  /-- `FMUL ST,ST(i)` (43_arithmetic.md R300). -/
  | fmulStSti (i : Slot)
  /-- `FCOM ST(i)` (45_compare.md R357). -/
  | fcomSti (i : Slot)
  /-- `FCOMP ST(i)` (45_compare.md R358). -/
  | fcompSti (i : Slot)
  /-- `FSUB ST,ST(i)` (43_arithmetic.md R301). -/
  | fsubStSti (i : Slot)
  /-- `FSUBR ST,ST(i)` (43_arithmetic.md R302). -/
  | fsubrStSti (i : Slot)
  /-- `FDIV ST,ST(i)` (43_arithmetic.md R303). -/
  | fdivStSti (i : Slot)
  /-- `FDIVR ST,ST(i)` (43_arithmetic.md R304). -/
  | fdivrStSti (i : Slot)
  /-- `FLD m32real` (42_load_store.md R221). -/
  | fldM32real (m : MemOperand)
  /-- `FST m32real` (42_load_store.md R241). -/
  | fstM32real (m : MemOperand)
  /-- `FSTP m32real` (42_load_store.md R242). -/
  | fstpM32real (m : MemOperand)
  /-- `FLDENV m14/28byte` (48_environment.md R453). -/
  | fldenv (m : MemOperand)
  /-- `FLDCW m16` (47_control.md R421). -/
  | fldcw (m : MemOperand)
  /-- `FSTENV m14/28byte` (48_environment.md R452). -/
  | fstenv (m : MemOperand)
  /-- `FSTCW m16` (47_control.md R422). -/
  | fstcw (m : MemOperand)
  /-- `FLD ST(i)` (42_load_store.md R224). -/
  | fldSti (i : Slot)
  /-- `FXCH ST(i)` (47_control.md R430). -/
  | fxch (i : Slot)
  /-- `FNOP` (47_control.md R426). -/
  | fnop
  /-- `FCHS` (44_misc_arith.md R331). -/
  | fchs
  /-- `FABS` (44_misc_arith.md R332). -/
  | fabs
  /-- `FTST` (45_compare.md R371). -/
  | ftst
  /-- `FXAM` (45_compare.md R386). -/
  | fxam
  /-- `FLD1` (42_load_store.md R233). -/
  | fld1
  /-- `FLDL2T` (42_load_store.md R236). -/
  | fldl2t
  /-- `FLDL2E` (42_load_store.md R237). -/
  | fldl2e
  /-- `FLDPI` (42_load_store.md R235). -/
  | fldpi
  /-- `FLDLG2` (42_load_store.md R238). -/
  | fldlg2
  /-- `FLDLN2` (42_load_store.md R239). -/
  | fldln2
  /-- `FLDZ` (42_load_store.md R234). -/
  | fldz
  /-- `F2XM1` (46_transcendental.md R403). -/
  | f2xm1
  /-- `FYL2X` (46_transcendental.md R404). -/
  | fyl2x
  /-- `FPTAN` (46_transcendental.md R406). -/
  | fptan
  /-- `FPATAN` (46_transcendental.md R407). -/
  | fpatan
  /-- `FXTRACT` (44_misc_arith.md R336). -/
  | fxtract
  /-- `FPREM1` (44_misc_arith.md R338). -/
  | fprem1
  /-- `FDECSTP` (47_control.md R428). -/
  | fdecstp
  /-- `FINCSTP` (47_control.md R427). -/
  | fincstp
  /-- `FPREM` (44_misc_arith.md R337). -/
  | fprem
  /-- `FYL2XP1` (46_transcendental.md R405). -/
  | fyl2xp1
  /-- `FSQRT` (44_misc_arith.md R333). -/
  | fsqrt
  /-- `FSINCOS` (46_transcendental.md R410). -/
  | fsincos
  /-- `FRNDINT` (44_misc_arith.md R334). -/
  | frndint
  /-- `FSCALE` (44_misc_arith.md R335). -/
  | fscale
  /-- `FSIN` (46_transcendental.md R408). -/
  | fsin
  /-- `FCOS` (46_transcendental.md R409). -/
  | fcos
  /-- `FIADD m32int` (43_arithmetic.md R287). -/
  | fiaddM32int (m : MemOperand)
  /-- `FIMUL m32int` (43_arithmetic.md R288). -/
  | fimulM32int (m : MemOperand)
  /-- `FICOM m32int` (45_compare.md R365). -/
  | ficomM32int (m : MemOperand)
  /-- `FICOMP m32int` (45_compare.md R366). -/
  | ficompM32int (m : MemOperand)
  /-- `FISUB m32int` (43_arithmetic.md R289). -/
  | fisubM32int (m : MemOperand)
  /-- `FISUBR m32int` (43_arithmetic.md R290). -/
  | fisubrM32int (m : MemOperand)
  /-- `FIDIV m32int` (43_arithmetic.md R291). -/
  | fidivM32int (m : MemOperand)
  /-- `FIDIVR m32int` (43_arithmetic.md R292). -/
  | fidivrM32int (m : MemOperand)
  /-- `FCMOVB ST,ST(i)` (45_compare.md R391). -/
  | fcmovb (i : Slot)
  /-- `FCMOVE ST,ST(i)` (45_compare.md R392). -/
  | fcmove (i : Slot)
  /-- `FCMOVBE ST,ST(i)` (45_compare.md R393). -/
  | fcmovbe (i : Slot)
  /-- `FCMOVU ST,ST(i)` (45_compare.md R394). -/
  | fcmovu (i : Slot)
  /-- `FUCOMPP` (45_compare.md R362). -/
  | fucompp
  /-- `FILD m32int` (42_load_store.md R226). -/
  | fildM32int (m : MemOperand)
  /-- `FIST m32int` (42_load_store.md R251). -/
  | fistM32int (m : MemOperand)
  /-- `FISTP m32int` (42_load_store.md R252). -/
  | fistpM32int (m : MemOperand)
  /-- `FLD m80real` (42_load_store.md R223). -/
  | fldM80real (m : MemOperand)
  /-- `FSTP m80real` (42_load_store.md R245). -/
  | fstpM80real (m : MemOperand)
  /-- `FCMOVNB ST,ST(i)` (45_compare.md R395). -/
  | fcmovnb (i : Slot)
  /-- `FCMOVNE ST,ST(i)` (45_compare.md R396). -/
  | fcmovne (i : Slot)
  /-- `FCMOVNBE ST,ST(i)` (45_compare.md R397). -/
  | fcmovnbe (i : Slot)
  /-- `FCMOVNU ST,ST(i)` (45_compare.md R398). -/
  | fcmovnu (i : Slot)
  /-- `FCLEX` (47_control.md R424). -/
  | fclex
  /-- `FINIT` (47_control.md R425). -/
  | finit
  /-- `FUCOMI ST,ST(i)` (45_compare.md R369). -/
  | fucomi (i : Slot)
  /-- `FCOMI ST,ST(i)` (45_compare.md R367). -/
  | fcomi (i : Slot)
  /-- `FADD m64real` (43_arithmetic.md R281). -/
  | faddM64real (m : MemOperand)
  /-- `FMUL m64real` (43_arithmetic.md R282). -/
  | fmulM64real (m : MemOperand)
  /-- `FCOM m64real` (45_compare.md R355). -/
  | fcomM64real (m : MemOperand)
  /-- `FCOMP m64real` (45_compare.md R356). -/
  | fcompM64real (m : MemOperand)
  /-- `FSUB m64real` (43_arithmetic.md R283). -/
  | fsubM64real (m : MemOperand)
  /-- `FSUBR m64real` (43_arithmetic.md R284). -/
  | fsubrM64real (m : MemOperand)
  /-- `FDIV m64real` (43_arithmetic.md R285). -/
  | fdivM64real (m : MemOperand)
  /-- `FDIVR m64real` (43_arithmetic.md R286). -/
  | fdivrM64real (m : MemOperand)
  /-- `FADD ST(i),ST` (43_arithmetic.md R305). -/
  | faddStiSt (i : Slot)
  /-- `FMUL ST(i),ST` (43_arithmetic.md R306). -/
  | fmulStiSt (i : Slot)
  /-- `FSUBR ST(i),ST` (43_arithmetic.md R307). -/
  | fsubrStiSt (i : Slot)
  /-- `FSUB ST(i),ST` (43_arithmetic.md R308). -/
  | fsubStiSt (i : Slot)
  /-- `FDIVR ST(i),ST` (43_arithmetic.md R309). -/
  | fdivrStiSt (i : Slot)
  /-- `FDIV ST(i),ST` (43_arithmetic.md R310). -/
  | fdivStiSt (i : Slot)
  /-- `FLD m64real` (42_load_store.md R222). -/
  | fldM64real (m : MemOperand)
  /-- `FST m64real` (42_load_store.md R243). -/
  | fstM64real (m : MemOperand)
  /-- `FSTP m64real` (42_load_store.md R244). -/
  | fstpM64real (m : MemOperand)
  /-- `FRSTOR m94/108byte` (48_environment.md R456). -/
  | frstor (m : MemOperand)
  /-- `FSAVE m94/108byte` (48_environment.md R455). -/
  | fsave (m : MemOperand)
  /-- `FSTSW m16` (47_control.md R423). -/
  | fstswM16 (m : MemOperand)
  /-- `FFREE ST(i)` (47_control.md R429). -/
  | ffree (i : Slot)
  /-- `FST ST(i)` (42_load_store.md R246). -/
  | fstSti (i : Slot)
  /-- `FSTP ST(i)` (42_load_store.md R247). -/
  | fstpSti (i : Slot)
  /-- `FUCOM ST(i)` (45_compare.md R360). -/
  | fucom (i : Slot)
  /-- `FUCOMP ST(i)` (45_compare.md R361). -/
  | fucomp (i : Slot)
  /-- `FIADD m16int` (43_arithmetic.md R293). -/
  | fiaddM16int (m : MemOperand)
  /-- `FIMUL m16int` (43_arithmetic.md R294). -/
  | fimulM16int (m : MemOperand)
  /-- `FICOM m16int` (45_compare.md R363). -/
  | ficomM16int (m : MemOperand)
  /-- `FICOMP m16int` (45_compare.md R364). -/
  | ficompM16int (m : MemOperand)
  /-- `FISUB m16int` (43_arithmetic.md R295). -/
  | fisubM16int (m : MemOperand)
  /-- `FISUBR m16int` (43_arithmetic.md R296). -/
  | fisubrM16int (m : MemOperand)
  /-- `FIDIV m16int` (43_arithmetic.md R297). -/
  | fidivM16int (m : MemOperand)
  /-- `FIDIVR m16int` (43_arithmetic.md R298). -/
  | fidivrM16int (m : MemOperand)
  /-- `FADDP ST(i),ST` (43_arithmetic.md R311). -/
  | faddp (i : Slot)
  /-- `FMULP ST(i),ST` (43_arithmetic.md R312). -/
  | fmulp (i : Slot)
  /-- `FSUBRP ST(i),ST` (43_arithmetic.md R313). -/
  | fsubrp (i : Slot)
  /-- `FSUBP ST(i),ST` (43_arithmetic.md R314). -/
  | fsubp (i : Slot)
  /-- `FDIVRP ST(i),ST` (43_arithmetic.md R315). -/
  | fdivrp (i : Slot)
  /-- `FDIVP ST(i),ST` (43_arithmetic.md R316). -/
  | fdivp (i : Slot)
  /-- `FCOMPP` (45_compare.md R359). -/
  | fcompp
  /-- `FILD m16int` (42_load_store.md R225). -/
  | fildM16int (m : MemOperand)
  /-- `FIST m16int` (42_load_store.md R249). -/
  | fistM16int (m : MemOperand)
  /-- `FISTP m16int` (42_load_store.md R250). -/
  | fistpM16int (m : MemOperand)
  /-- `FBLD m80bcd` (42_load_store.md R228). -/
  | fbld (m : MemOperand)
  /-- `FILD m64int` (42_load_store.md R227). -/
  | fildM64int (m : MemOperand)
  /-- `FBSTP m80bcd` (42_load_store.md R254). -/
  | fbstp (m : MemOperand)
  /-- `FISTP m64int` (42_load_store.md R253). -/
  | fistpM64int (m : MemOperand)
  /-- `FSTSW AX` (47_control.md R431). -/
  | fstswAx
  /-- `FUCOMIP ST,ST(i)` (45_compare.md R370). -/
  | fucomip (i : Slot)
  /-- `FCOMIP ST,ST(i)` (45_compare.md R368). -/
  | fcomip (i : Slot)
deriving DecidableEq, Repr

end Sys2Proof
end

