-- ==== Sys2Proof/WellFormed.lean ====
section
/-! DEFINITION. Which instructions have an encoding: a memory form has `mod` other than 3 (30_encoding.md R101, R102);
every index of `ST(i)` is in range by its type. -/

namespace Sys2Proof

/-- The `mod` bits of a memory form are 00, 01 or 10: `modrm < 0xC0` (30_encoding.md R101). -/
def MemOperand.wellFormed (m : MemOperand) : Bool := m.mod != 3#2

/-- An instruction that an encoding stands for. -/
def Instr.wellFormed : Instr → Bool
  | .faddM32real m => m.wellFormed
  | .fmulM32real m => m.wellFormed
  | .fcomM32real m => m.wellFormed
  | .fcompM32real m => m.wellFormed
  | .fsubM32real m => m.wellFormed
  | .fsubrM32real m => m.wellFormed
  | .fdivM32real m => m.wellFormed
  | .fdivrM32real m => m.wellFormed
  | .fldM32real m => m.wellFormed
  | .fstM32real m => m.wellFormed
  | .fstpM32real m => m.wellFormed
  | .fldenv m => m.wellFormed
  | .fldcw m => m.wellFormed
  | .fstenv m => m.wellFormed
  | .fstcw m => m.wellFormed
  | .fiaddM32int m => m.wellFormed
  | .fimulM32int m => m.wellFormed
  | .ficomM32int m => m.wellFormed
  | .ficompM32int m => m.wellFormed
  | .fisubM32int m => m.wellFormed
  | .fisubrM32int m => m.wellFormed
  | .fidivM32int m => m.wellFormed
  | .fidivrM32int m => m.wellFormed
  | .fildM32int m => m.wellFormed
  | .fistM32int m => m.wellFormed
  | .fistpM32int m => m.wellFormed
  | .fldM80real m => m.wellFormed
  | .fstpM80real m => m.wellFormed
  | .faddM64real m => m.wellFormed
  | .fmulM64real m => m.wellFormed
  | .fcomM64real m => m.wellFormed
  | .fcompM64real m => m.wellFormed
  | .fsubM64real m => m.wellFormed
  | .fsubrM64real m => m.wellFormed
  | .fdivM64real m => m.wellFormed
  | .fdivrM64real m => m.wellFormed
  | .fldM64real m => m.wellFormed
  | .fstM64real m => m.wellFormed
  | .fstpM64real m => m.wellFormed
  | .frstor m => m.wellFormed
  | .fsave m => m.wellFormed
  | .fstswM16 m => m.wellFormed
  | .fiaddM16int m => m.wellFormed
  | .fimulM16int m => m.wellFormed
  | .ficomM16int m => m.wellFormed
  | .ficompM16int m => m.wellFormed
  | .fisubM16int m => m.wellFormed
  | .fisubrM16int m => m.wellFormed
  | .fidivM16int m => m.wellFormed
  | .fidivrM16int m => m.wellFormed
  | .fildM16int m => m.wellFormed
  | .fistM16int m => m.wellFormed
  | .fistpM16int m => m.wellFormed
  | .fbld m => m.wellFormed
  | .fildM64int m => m.wellFormed
  | .fbstp m => m.wellFormed
  | .fistpM64int m => m.wellFormed
  | .faddStSti _ => true
  | .fmulStSti _ => true
  | .fcomSti _ => true
  | .fcompSti _ => true
  | .fsubStSti _ => true
  | .fsubrStSti _ => true
  | .fdivStSti _ => true
  | .fdivrStSti _ => true
  | .fldSti _ => true
  | .fxch _ => true
  | .fnop => true
  | .fchs => true
  | .fabs => true
  | .ftst => true
  | .fxam => true
  | .fld1 => true
  | .fldl2t => true
  | .fldl2e => true
  | .fldpi => true
  | .fldlg2 => true
  | .fldln2 => true
  | .fldz => true
  | .f2xm1 => true
  | .fyl2x => true
  | .fptan => true
  | .fpatan => true
  | .fxtract => true
  | .fprem1 => true
  | .fdecstp => true
  | .fincstp => true
  | .fprem => true
  | .fyl2xp1 => true
  | .fsqrt => true
  | .fsincos => true
  | .frndint => true
  | .fscale => true
  | .fsin => true
  | .fcos => true
  | .fcmovb _ => true
  | .fcmove _ => true
  | .fcmovbe _ => true
  | .fcmovu _ => true
  | .fucompp => true
  | .fcmovnb _ => true
  | .fcmovne _ => true
  | .fcmovnbe _ => true
  | .fcmovnu _ => true
  | .fclex => true
  | .finit => true
  | .fucomi _ => true
  | .fcomi _ => true
  | .faddStiSt _ => true
  | .fmulStiSt _ => true
  | .fsubrStiSt _ => true
  | .fsubStiSt _ => true
  | .fdivrStiSt _ => true
  | .fdivStiSt _ => true
  | .ffree _ => true
  | .fstSti _ => true
  | .fstpSti _ => true
  | .fucom _ => true
  | .fucomp _ => true
  | .faddp _ => true
  | .fmulp _ => true
  | .fsubrp _ => true
  | .fsubp _ => true
  | .fdivrp _ => true
  | .fdivp _ => true
  | .fcompp => true
  | .fstswAx => true
  | .fucomip _ => true
  | .fcomip _ => true

end Sys2Proof
end

