-- ==== Sys2Proof/Decode.lean ====
section
/-! DEFINITION. Decoding (30_encoding.md R100 to R114): total on any escape byte and ModR/M byte, rejecting by name;
the encoder, written from the same tables; the number of an instruction's row in spec/opcode_table.json. -/

namespace Sys2Proof

/-- Why a pair of bytes is no instruction of the block. -/
inductive DecodeError
  /-- The first byte is not one of `0xD8` to `0xDF`: the host has no entry point for it (30_encoding.md R100). -/
  | notEscape (esc : Byte)
  /-- An unpopulated entry of the dispatch tables: the fatal decode error of group `g` and ModR/M byte `modrm`
  (30_encoding.md R114, 60_exceptions.md R510). -/
  | fatalDecode (g : BitVec 3) (modrm : Byte)
deriving DecidableEq, Repr

/-- What the decoder answers. -/
inductive Decoded
  | instr (i : Instr)
  | reject (e : DecodeError)
deriving DecidableEq, Repr

/-- The group number `g` of an escape byte `11011ggg` (30_encoding.md R100). -/
def groupOf (esc : Byte) : Option (BitVec 3) :=
  if esc.extractLsb' 3 5 = 0b11011#5 then some (esc.extractLsb' 0 3) else none

/-- The memory half of the dispatch tables, selected by `(g, reg)` alone (30_encoding.md R101, R106 to R113). -/
def dispatchMem (g reg : BitVec 3) (m : MemOperand) : Option Instr :=
  match g.toNat, reg.toNat with
  | 0, 0 => some (.faddM32real m)
  | 0, 1 => some (.fmulM32real m)
  | 0, 2 => some (.fcomM32real m)
  | 0, 3 => some (.fcompM32real m)
  | 0, 4 => some (.fsubM32real m)
  | 0, 5 => some (.fsubrM32real m)
  | 0, 6 => some (.fdivM32real m)
  | 0, 7 => some (.fdivrM32real m)
  | 1, 0 => some (.fldM32real m)
  | 1, 2 => some (.fstM32real m)
  | 1, 3 => some (.fstpM32real m)
  | 1, 4 => some (.fldenv m)
  | 1, 5 => some (.fldcw m)
  | 1, 6 => some (.fstenv m)
  | 1, 7 => some (.fstcw m)
  | 2, 0 => some (.fiaddM32int m)
  | 2, 1 => some (.fimulM32int m)
  | 2, 2 => some (.ficomM32int m)
  | 2, 3 => some (.ficompM32int m)
  | 2, 4 => some (.fisubM32int m)
  | 2, 5 => some (.fisubrM32int m)
  | 2, 6 => some (.fidivM32int m)
  | 2, 7 => some (.fidivrM32int m)
  | 3, 0 => some (.fildM32int m)
  | 3, 2 => some (.fistM32int m)
  | 3, 3 => some (.fistpM32int m)
  | 3, 5 => some (.fldM80real m)
  | 3, 7 => some (.fstpM80real m)
  | 4, 0 => some (.faddM64real m)
  | 4, 1 => some (.fmulM64real m)
  | 4, 2 => some (.fcomM64real m)
  | 4, 3 => some (.fcompM64real m)
  | 4, 4 => some (.fsubM64real m)
  | 4, 5 => some (.fsubrM64real m)
  | 4, 6 => some (.fdivM64real m)
  | 4, 7 => some (.fdivrM64real m)
  | 5, 0 => some (.fldM64real m)
  | 5, 2 => some (.fstM64real m)
  | 5, 3 => some (.fstpM64real m)
  | 5, 4 => some (.frstor m)
  | 5, 6 => some (.fsave m)
  | 5, 7 => some (.fstswM16 m)
  | 6, 0 => some (.fiaddM16int m)
  | 6, 1 => some (.fimulM16int m)
  | 6, 2 => some (.ficomM16int m)
  | 6, 3 => some (.ficompM16int m)
  | 6, 4 => some (.fisubM16int m)
  | 6, 5 => some (.fisubrM16int m)
  | 6, 6 => some (.fidivM16int m)
  | 6, 7 => some (.fidivrM16int m)
  | 7, 0 => some (.fildM16int m)
  | 7, 2 => some (.fistM16int m)
  | 7, 3 => some (.fistpM16int m)
  | 7, 4 => some (.fbld m)
  | 7, 5 => some (.fildM64int m)
  | 7, 6 => some (.fbstp m)
  | 7, 7 => some (.fistpM64int m)
  | _, _ => none

/-- The register half of the dispatch tables for group `g` and the ModR/M byte `11rrriii` (30_encoding.md R102, R106 to
R113): `row` is `rrr`, and `i` is the operand `ST(i)` or completes the selector. -/
def dispatchReg (g row i : BitVec 3) : Option Instr :=
  match g.toNat, row.toNat, i.toNat with
  | 0, 0, _ => some (.faddStSti i)
  | 0, 1, _ => some (.fmulStSti i)
  | 0, 2, _ => some (.fcomSti i)
  | 0, 3, _ => some (.fcompSti i)
  | 0, 4, _ => some (.fsubStSti i)
  | 0, 5, _ => some (.fsubrStSti i)
  | 0, 6, _ => some (.fdivStSti i)
  | 0, 7, _ => some (.fdivrStSti i)
  | 1, 0, _ => some (.fldSti i)
  | 1, 1, _ => some (.fxch i)
  | 1, 2, 0 => some .fnop
  | 1, 4, 0 => some .fchs
  | 1, 4, 1 => some .fabs
  | 1, 4, 4 => some .ftst
  | 1, 4, 5 => some .fxam
  | 1, 5, 0 => some .fld1
  | 1, 5, 1 => some .fldl2t
  | 1, 5, 2 => some .fldl2e
  | 1, 5, 3 => some .fldpi
  | 1, 5, 4 => some .fldlg2
  | 1, 5, 5 => some .fldln2
  | 1, 5, 6 => some .fldz
  | 1, 6, 0 => some .f2xm1
  | 1, 6, 1 => some .fyl2x
  | 1, 6, 2 => some .fptan
  | 1, 6, 3 => some .fpatan
  | 1, 6, 4 => some .fxtract
  | 1, 6, 5 => some .fprem1
  | 1, 6, 6 => some .fdecstp
  | 1, 6, 7 => some .fincstp
  | 1, 7, 0 => some .fprem
  | 1, 7, 1 => some .fyl2xp1
  | 1, 7, 2 => some .fsqrt
  | 1, 7, 3 => some .fsincos
  | 1, 7, 4 => some .frndint
  | 1, 7, 5 => some .fscale
  | 1, 7, 6 => some .fsin
  | 1, 7, 7 => some .fcos
  | 2, 0, _ => some (.fcmovb i)
  | 2, 1, _ => some (.fcmove i)
  | 2, 2, _ => some (.fcmovbe i)
  | 2, 3, _ => some (.fcmovu i)
  | 2, 5, 1 => some .fucompp
  | 3, 0, _ => some (.fcmovnb i)
  | 3, 1, _ => some (.fcmovne i)
  | 3, 2, _ => some (.fcmovnbe i)
  | 3, 3, _ => some (.fcmovnu i)
  | 3, 4, 2 => some .fclex
  | 3, 4, 3 => some .finit
  | 3, 5, _ => some (.fucomi i)
  | 3, 6, _ => some (.fcomi i)
  | 4, 0, _ => some (.faddStiSt i)
  | 4, 1, _ => some (.fmulStiSt i)
  | 4, 4, _ => some (.fsubrStiSt i)
  | 4, 5, _ => some (.fsubStiSt i)
  | 4, 6, _ => some (.fdivrStiSt i)
  | 4, 7, _ => some (.fdivStiSt i)
  | 5, 0, _ => some (.ffree i)
  | 5, 2, _ => some (.fstSti i)
  | 5, 3, _ => some (.fstpSti i)
  | 5, 4, _ => some (.fucom i)
  | 5, 5, _ => some (.fucomp i)
  | 6, 0, _ => some (.faddp i)
  | 6, 1, _ => some (.fmulp i)
  | 6, 4, _ => some (.fsubrp i)
  | 6, 5, _ => some (.fsubp i)
  | 6, 6, _ => some (.fdivrp i)
  | 6, 7, _ => some (.fdivp i)
  | 6, 3, 1 => some .fcompp
  | 7, 4, 0 => some .fstswAx
  | 7, 5, _ => some (.fucomip i)
  | 7, 6, _ => some (.fcomip i)
  | _, _, _ => none

/-- `dispatch(g, modrm)` with the address `GetEA` gives for a memory form (30_encoding.md R105). -/
def dispatch (g : BitVec 3) (modrm : Byte) (ea : Addr) : Option Instr :=
  if modrm.extractLsb' 6 2 = 3#2 then dispatchReg g (modrm.extractLsb' 3 3) (modrm.extractLsb' 0 3)
  else dispatchMem g (modrm.extractLsb' 3 3) ⟨modrm.extractLsb' 6 2, modrm.extractLsb' 0 3, ea⟩

/-- The decoder: an escape byte selects its entry point, which dispatches on the ModR/M byte (30_encoding.md R100,
R105, R114). -/
def decode (x : Located) : Decoded :=
  match groupOf x.esc with
  | none => .reject (.notEscape x.esc)
  | some g =>
    match dispatch g x.modrm x.ea with
    | some i => .instr i
    | none => .reject (.fatalDecode g x.modrm)

/-- The escape byte `11011ggg` of group `g`. -/
def escByte (g : BitVec 3) : Byte := 0b11011#5 ++ g

/-- The triple of a memory form with selector `reg`. -/
def encodeMem (g reg : BitVec 3) (m : MemOperand) : Located := ⟨escByte g, m.mod ++ reg ++ m.rm, m.ea⟩

/-- The triple of a register form in row `row`; it uses no address. -/
def encodeReg (g row i : BitVec 3) : Located := ⟨escByte g, 3#2 ++ row ++ i, 0#32⟩

/-- The encoder: the triple that stands for an instruction (30_encoding.md R106 to R113). -/
def encode : Instr → Located
  | .faddM32real m => encodeMem 0 0 m
  | .fmulM32real m => encodeMem 0 1 m
  | .fcomM32real m => encodeMem 0 2 m
  | .fcompM32real m => encodeMem 0 3 m
  | .fsubM32real m => encodeMem 0 4 m
  | .fsubrM32real m => encodeMem 0 5 m
  | .fdivM32real m => encodeMem 0 6 m
  | .fdivrM32real m => encodeMem 0 7 m
  | .faddStSti i => encodeReg 0 0 i
  | .fmulStSti i => encodeReg 0 1 i
  | .fcomSti i => encodeReg 0 2 i
  | .fcompSti i => encodeReg 0 3 i
  | .fsubStSti i => encodeReg 0 4 i
  | .fsubrStSti i => encodeReg 0 5 i
  | .fdivStSti i => encodeReg 0 6 i
  | .fdivrStSti i => encodeReg 0 7 i
  | .fldM32real m => encodeMem 1 0 m
  | .fstM32real m => encodeMem 1 2 m
  | .fstpM32real m => encodeMem 1 3 m
  | .fldenv m => encodeMem 1 4 m
  | .fldcw m => encodeMem 1 5 m
  | .fstenv m => encodeMem 1 6 m
  | .fstcw m => encodeMem 1 7 m
  | .fldSti i => encodeReg 1 0 i
  | .fxch i => encodeReg 1 1 i
  | .fnop => encodeReg 1 2 0
  | .fchs => encodeReg 1 4 0
  | .fabs => encodeReg 1 4 1
  | .ftst => encodeReg 1 4 4
  | .fxam => encodeReg 1 4 5
  | .fld1 => encodeReg 1 5 0
  | .fldl2t => encodeReg 1 5 1
  | .fldl2e => encodeReg 1 5 2
  | .fldpi => encodeReg 1 5 3
  | .fldlg2 => encodeReg 1 5 4
  | .fldln2 => encodeReg 1 5 5
  | .fldz => encodeReg 1 5 6
  | .f2xm1 => encodeReg 1 6 0
  | .fyl2x => encodeReg 1 6 1
  | .fptan => encodeReg 1 6 2
  | .fpatan => encodeReg 1 6 3
  | .fxtract => encodeReg 1 6 4
  | .fprem1 => encodeReg 1 6 5
  | .fdecstp => encodeReg 1 6 6
  | .fincstp => encodeReg 1 6 7
  | .fprem => encodeReg 1 7 0
  | .fyl2xp1 => encodeReg 1 7 1
  | .fsqrt => encodeReg 1 7 2
  | .fsincos => encodeReg 1 7 3
  | .frndint => encodeReg 1 7 4
  | .fscale => encodeReg 1 7 5
  | .fsin => encodeReg 1 7 6
  | .fcos => encodeReg 1 7 7
  | .fiaddM32int m => encodeMem 2 0 m
  | .fimulM32int m => encodeMem 2 1 m
  | .ficomM32int m => encodeMem 2 2 m
  | .ficompM32int m => encodeMem 2 3 m
  | .fisubM32int m => encodeMem 2 4 m
  | .fisubrM32int m => encodeMem 2 5 m
  | .fidivM32int m => encodeMem 2 6 m
  | .fidivrM32int m => encodeMem 2 7 m
  | .fcmovb i => encodeReg 2 0 i
  | .fcmove i => encodeReg 2 1 i
  | .fcmovbe i => encodeReg 2 2 i
  | .fcmovu i => encodeReg 2 3 i
  | .fucompp => encodeReg 2 5 1
  | .fildM32int m => encodeMem 3 0 m
  | .fistM32int m => encodeMem 3 2 m
  | .fistpM32int m => encodeMem 3 3 m
  | .fldM80real m => encodeMem 3 5 m
  | .fstpM80real m => encodeMem 3 7 m
  | .fcmovnb i => encodeReg 3 0 i
  | .fcmovne i => encodeReg 3 1 i
  | .fcmovnbe i => encodeReg 3 2 i
  | .fcmovnu i => encodeReg 3 3 i
  | .fclex => encodeReg 3 4 2
  | .finit => encodeReg 3 4 3
  | .fucomi i => encodeReg 3 5 i
  | .fcomi i => encodeReg 3 6 i
  | .faddM64real m => encodeMem 4 0 m
  | .fmulM64real m => encodeMem 4 1 m
  | .fcomM64real m => encodeMem 4 2 m
  | .fcompM64real m => encodeMem 4 3 m
  | .fsubM64real m => encodeMem 4 4 m
  | .fsubrM64real m => encodeMem 4 5 m
  | .fdivM64real m => encodeMem 4 6 m
  | .fdivrM64real m => encodeMem 4 7 m
  | .faddStiSt i => encodeReg 4 0 i
  | .fmulStiSt i => encodeReg 4 1 i
  | .fsubrStiSt i => encodeReg 4 4 i
  | .fsubStiSt i => encodeReg 4 5 i
  | .fdivrStiSt i => encodeReg 4 6 i
  | .fdivStiSt i => encodeReg 4 7 i
  | .fldM64real m => encodeMem 5 0 m
  | .fstM64real m => encodeMem 5 2 m
  | .fstpM64real m => encodeMem 5 3 m
  | .frstor m => encodeMem 5 4 m
  | .fsave m => encodeMem 5 6 m
  | .fstswM16 m => encodeMem 5 7 m
  | .ffree i => encodeReg 5 0 i
  | .fstSti i => encodeReg 5 2 i
  | .fstpSti i => encodeReg 5 3 i
  | .fucom i => encodeReg 5 4 i
  | .fucomp i => encodeReg 5 5 i
  | .fiaddM16int m => encodeMem 6 0 m
  | .fimulM16int m => encodeMem 6 1 m
  | .ficomM16int m => encodeMem 6 2 m
  | .ficompM16int m => encodeMem 6 3 m
  | .fisubM16int m => encodeMem 6 4 m
  | .fisubrM16int m => encodeMem 6 5 m
  | .fidivM16int m => encodeMem 6 6 m
  | .fidivrM16int m => encodeMem 6 7 m
  | .faddp i => encodeReg 6 0 i
  | .fmulp i => encodeReg 6 1 i
  | .fsubrp i => encodeReg 6 4 i
  | .fsubp i => encodeReg 6 5 i
  | .fdivrp i => encodeReg 6 6 i
  | .fdivp i => encodeReg 6 7 i
  | .fcompp => encodeReg 6 3 1
  | .fildM16int m => encodeMem 7 0 m
  | .fistM16int m => encodeMem 7 2 m
  | .fistpM16int m => encodeMem 7 3 m
  | .fbld m => encodeMem 7 4 m
  | .fildM64int m => encodeMem 7 5 m
  | .fbstp m => encodeMem 7 6 m
  | .fistpM64int m => encodeMem 7 7 m
  | .fstswAx => encodeReg 7 4 0
  | .fucomip i => encodeReg 7 5 i
  | .fcomip i => encodeReg 7 6 i

/-- The two bytes of an instruction as the 16-bit word `(escape << 8) | modrm` of spec/opcode_table.json
(30_encoding.md, introduction). -/
def encodeWord (i : Instr) : BitVec 16 := (encode i).esc ++ (encode i).modrm

/-- The located instruction whose first `nbits` bits are those of `w`, numbered as spec/opcode_table.json numbers them:
the escape byte in bits 15..8, the ModR/M byte in bits 7..0 (DEDUCED, notes/assumptions/18.md). Every bit above is 0, so
the address is 0. -/
def locateWord (nbits w : Nat) : Located :=
  let v := w % 2 ^ nbits
  ⟨BitVec.ofNat 8 (v / 256), BitVec.ofNat 8 v, 0#32⟩

/-- The instruction the decoder reads from a word of the opcode table. -/
def decodeTableWord (nbits w : Nat) : Option Instr :=
  match decode (locateWord nbits w) with
  | .instr i => some i
  | .reject _ => none

/-- The number, from 0, of the row of spec/opcode_table.json an instruction belongs to: the index of its cycle constant
(70_reset_and_hazards.md R556). -/
def Instr.row : Instr → Nat
  | .faddM32real _ => 0
  | .fmulM32real _ => 1
  | .fcomM32real _ => 2
  | .fcompM32real _ => 3
  | .fsubM32real _ => 4
  | .fsubrM32real _ => 5
  | .fdivM32real _ => 6
  | .fdivrM32real _ => 7
  | .faddStSti _ => 8
  | .fmulStSti _ => 9
  | .fcomSti _ => 10
  | .fcompSti _ => 11
  | .fsubStSti _ => 12
  | .fsubrStSti _ => 13
  | .fdivStSti _ => 14
  | .fdivrStSti _ => 15
  | .fldM32real _ => 16
  | .fstM32real _ => 17
  | .fstpM32real _ => 18
  | .fldenv _ => 19
  | .fldcw _ => 20
  | .fstenv _ => 21
  | .fstcw _ => 22
  | .fldSti _ => 23
  | .fxch _ => 24
  | .fnop => 25
  | .fchs => 26
  | .fabs => 27
  | .ftst => 28
  | .fxam => 29
  | .fld1 => 30
  | .fldl2t => 31
  | .fldl2e => 32
  | .fldpi => 33
  | .fldlg2 => 34
  | .fldln2 => 35
  | .fldz => 36
  | .f2xm1 => 37
  | .fyl2x => 38
  | .fptan => 39
  | .fpatan => 40
  | .fxtract => 41
  | .fprem1 => 42
  | .fdecstp => 43
  | .fincstp => 44
  | .fprem => 45
  | .fyl2xp1 => 46
  | .fsqrt => 47
  | .fsincos => 48
  | .frndint => 49
  | .fscale => 50
  | .fsin => 51
  | .fcos => 52
  | .fiaddM32int _ => 53
  | .fimulM32int _ => 54
  | .ficomM32int _ => 55
  | .ficompM32int _ => 56
  | .fisubM32int _ => 57
  | .fisubrM32int _ => 58
  | .fidivM32int _ => 59
  | .fidivrM32int _ => 60
  | .fcmovb _ => 61
  | .fcmove _ => 62
  | .fcmovbe _ => 63
  | .fcmovu _ => 64
  | .fucompp => 65
  | .fildM32int _ => 66
  | .fistM32int _ => 67
  | .fistpM32int _ => 68
  | .fldM80real _ => 69
  | .fstpM80real _ => 70
  | .fcmovnb _ => 71
  | .fcmovne _ => 72
  | .fcmovnbe _ => 73
  | .fcmovnu _ => 74
  | .fclex => 75
  | .finit => 76
  | .fucomi _ => 77
  | .fcomi _ => 78
  | .faddM64real _ => 79
  | .fmulM64real _ => 80
  | .fcomM64real _ => 81
  | .fcompM64real _ => 82
  | .fsubM64real _ => 83
  | .fsubrM64real _ => 84
  | .fdivM64real _ => 85
  | .fdivrM64real _ => 86
  | .faddStiSt _ => 87
  | .fmulStiSt _ => 88
  | .fsubrStiSt _ => 89
  | .fsubStiSt _ => 90
  | .fdivrStiSt _ => 91
  | .fdivStiSt _ => 92
  | .fldM64real _ => 93
  | .fstM64real _ => 94
  | .fstpM64real _ => 95
  | .frstor _ => 96
  | .fsave _ => 97
  | .fstswM16 _ => 98
  | .ffree _ => 99
  | .fstSti _ => 100
  | .fstpSti _ => 101
  | .fucom _ => 102
  | .fucomp _ => 103
  | .fiaddM16int _ => 104
  | .fimulM16int _ => 105
  | .ficomM16int _ => 106
  | .ficompM16int _ => 107
  | .fisubM16int _ => 108
  | .fisubrM16int _ => 109
  | .fidivM16int _ => 110
  | .fidivrM16int _ => 111
  | .faddp _ => 112
  | .fmulp _ => 113
  | .fsubrp _ => 114
  | .fsubp _ => 115
  | .fdivrp _ => 116
  | .fdivp _ => 117
  | .fcompp => 118
  | .fildM16int _ => 119
  | .fistM16int _ => 120
  | .fistpM16int _ => 121
  | .fbld _ => 122
  | .fildM64int _ => 123
  | .fbstp _ => 124
  | .fistpM64int _ => 125
  | .fstswAx => 126
  | .fucomip _ => 127
  | .fcomip _ => 128

end Sys2Proof
end

