-- ==== Sys2Proof/Machine/State.lean ====
section
/-! DEFINITION. The state of the machine: the block (10_state.md), the part of the host it reaches through its
interface (10_state.md R44, 00_scope.md R7), the calls the host makes (10_state.md R30), the parameters, and the
model's own counter of free values. Plain data throughout. -/

namespace Sys2Proof.Machine

/-- A rounding mode (00_scope.md R12): nearest even, down, up, toward zero. -/
inductive Rm
  | rn
  | rd
  | ru
  | rz
deriving DecidableEq, Repr

/-- The kernel's exception flags (10_state.md R41). -/
structure KFlags where
  invalid : Bool
  divbyzero : Bool
  overflow : Bool
  underflow : Bool
  inexact : Bool
deriving DecidableEq, Repr

/-- No flag: `FX <- {}` (40_kernel_and_protocol.md R165). -/
def KFlags.empty : KFlags := ⟨false, false, false, false, false⟩

/-- The accesses a host callback can refuse: `GetEA(modrm, rw)` by its argument `rw`, `READ*`, `WRITE*`
(20_memory.md R71, R79). -/
inductive Access
  | getEa (rw : Bool)
  | read
  | write
deriving DecidableEq, Repr

/-- Addresses `lo` to `hi` at which the host ends an access of this kind by a host-level fault (20_memory.md R78,
R79; notes/assumptions/13.md). -/
structure Guard where
  access : Access
  lo : Addr
  hi : Addr
deriving DecidableEq, Repr

/-- A host-level fault inside a callback: what was tried, at which address (60_exceptions.md R511). -/
structure HostFault where
  access : Access
  addr : Addr
deriving DecidableEq, Repr

/-- The width of an integer format (41_codecs.md R190). -/
inductive IntWidth
  | w16
  | w32
  | w64
deriving DecidableEq, Repr

/-- A command of the exported table (49_host_command_port.md R470 to R480), with the operands R471 gives it; a result
is returned in `State.portOut` (DESIGN CHOICE, notes/assumptions/15.md). -/
inductive PortCmd
  | fldcw (v : Word)
  | wait
  | fninit
  | fstcw
  | fstsw
  | frndint
  | fclex
  | fsave (ea : Addr)
  | frstor (ea : Addr)
  | fistp (width : IntWidth) (rc : BitVec 2)
deriving DecidableEq, Repr

/-- What the host does of itself between calls of the block, as far as the block can see it: `reset()`
(70_reset_and_hazards.md R540), its inputs (00_scope.md R7), whether its `i386_trap` returns to the block
(70_reset_and_hazards.md R553), its flags and `AX` (10_state.md R31, R44), its stores
(20_memory.md R82), its protection of memory (20_memory.md R78). -/
inductive HostEvent
  | reset
  | inputs (honorsMf prot opsize32 : Bool)
  | trap (returns : Bool)
  | flags (zf pf cf : Bool)
  | ax (v : Word)
  | store (a : Addr) (b : Byte)
  | guards (gs : List Guard)
deriving DecidableEq, Repr

/-- One entry of the sequence the host plays to the block (10_state.md R30; 20_memory.md R82: one at a time). -/
inductive HostCall
  | insn (x : Located)
  | port (c : PortCmd)
  | event (e : HostEvent)
deriving DecidableEq, Repr

/-- The host's memory: the bytes that differ from what an unlisted address reads as, by rising address. -/
abbrev Memory := List Host.Cell

/-- The state. Fields of the block first, then the host's side, then the model's own. -/
structure State where
  /-- `R[0]` to `R[7]`, in physical order (10_state.md R20). -/
  regs : Vector Fx80 8
  /-- The control word (10_state.md R33). -/
  cw : Word
  /-- The status word (10_state.md R25); `TOP` is its field 13:11 (R27). -/
  sw : Word
  /-- The tag word, two bits per physical slot (10_state.md R23). -/
  tw : Word
  /-- The instruction pointer register, cleared by reset and used by nothing (10_state.md R38). -/
  fip : BitVec 32
  /-- The data pointer register (10_state.md R38). -/
  fdp : BitVec 32
  /-- The opcode register (10_state.md R38). -/
  fop : BitVec 16
  /-- `FX`, the kernel's exception accumulator (10_state.md R41). -/
  fx : KFlags
  /-- `RM`, the kernel's rounding mode (10_state.md R42). -/
  rm : Rm
  /-- The host's memory behind `READ*` and `WRITE*` (20_memory.md R70). -/
  mem : Memory
  /-- The host's register `AX` (10_state.md R44). -/
  ax : Word
  /-- The host flag ZF (10_state.md R31). -/
  zf : Bool
  /-- The host flag PF (10_state.md R31). -/
  pf : Bool
  /-- The host flag CF (10_state.md R31). -/
  cf : Bool
  /-- The input HONORS_MF (00_scope.md R7). -/
  honorsMf : Bool
  /-- The input PROT (00_scope.md R7). -/
  prot : Bool
  /-- The input OPSIZE32 (00_scope.md R7). -/
  opsize32 : Bool
  /-- Whether the host's `i386_trap` returns to the block or leaves it by a non-local exit (70_reset_and_hazards.md R553;
  notes/assumptions/22.md). -/
  trapReturns : Bool
  /-- The accesses the host faults (20_memory.md R78, R79). -/
  guards : List Guard
  /-- The host's cycle counter (60_exceptions.md R521). -/
  cycles : Nat
  /-- Whether this call requested the math fault (60_exceptions.md R506: one bit per instruction). -/
  mfRequest : Bool
  /-- The host-level fault that ended this call, if any (60_exceptions.md R511). -/
  hostFault : Option HostFault
  /-- What the last command of the exported table returned (49_host_command_port.md R471). -/
  portOut : Option (BitVec 64)
  /-- The sequence of calls the host makes (10_state.md R30). -/
  stream : List HostCall
  /-- The position in that sequence, R30's "program counter". -/
  pos : Nat
  /-- The parameters of 00_scope.md R8. -/
  params : Params
  /-- The model's own: how many free values have been drawn (notes/assumptions/17.md). -/
  free : Nat
deriving DecidableEq, Repr

/-- Why the machine stops with a fault. -/
inductive Fault
  /-- The fatal decode error `FatalDecode(g, modrm)` of an unpopulated table entry, raised by `step` and by no
  instruction; the state is unchanged (60_exceptions.md R510). Safe: the spec states it. -/
  | fatalDecode (g : BitVec 3) (modrm : Byte)
deriving DecidableEq, Repr

/-- Why the machine gives no meaning. -/
inductive Refusal
  /-- An instruction with no meaning in the model, raised by an arm of exec; no arm does. Safe. -/
  | notModelled (mnemonic : String)
  /-- A first byte outside `0xD8` to `0xDF`, raised by `step`: the host never hands one to the block
  (30_encoding.md R100; notes/assumptions/16.md). Safe. -/
  | notEscape (esc : Byte)
deriving DecidableEq, Repr

/-- What a step or a meaning answers. -/
abbrev Result := Host.Outcome State Fault Refusal

/-- The machine right after `reset()` at power-on (10_state.md R60, 70_reset_and_hazards.md R540). The eight registers
are R_INIT, a DESIGN CHOICE (notes/assumptions/2.md); the host's side, which `reset()` does not touch, is a DESIGN
CHOICE (notes/assumptions/3.md, 4.md, 22.md), among it that the host refuses no access (`guards`), which 20_memory.md R78
leaves to the host; the parameters are 6.md. -/
def State.reset : State where
  regs := Vector.replicate 8 ⟨0x0000#16, 0x0000000000000000#64⟩
  cw := 0x037F#16
  sw := 0x0000#16
  tw := 0xFFFF#16
  fip := 0#32
  fdp := 0#32
  fop := 0#16
  fx := KFlags.empty
  rm := .rn
  mem := []
  ax := 0x0000#16
  zf := false
  pf := false
  cf := false
  honorsMf := true
  prot := false
  opsize32 := true
  trapReturns := true
  guards := []
  cycles := 0
  mfRequest := false
  hostFault := none
  portOut := none
  stream := []
  pos := 0
  params := Params.recommended
  free := 0

end Sys2Proof.Machine
end

