-- ==== Sys2Proof/Machine/Bits.lean ====
section
/-! DEFINITION. Reading and writing the fields of the 16-bit words (00_scope.md R9), with the bit positions of the
status word, the control word and the tag word (10_state.md R23, R25, R33). -/

namespace Sys2Proof.Machine

/-- `w` with bit `n` set to `b`. -/
def putBit (w : Word) (n : Nat) (b : Bool) : Word :=
  if b then w ||| BitVec.twoPow 16 n else w &&& ~~~BitVec.twoPow 16 n

/-- SW.IE, invalid operation. -/
abbrev bitIE : Nat := 0
/-- SW.DE, denormalized operand. -/
abbrev bitDE : Nat := 1
/-- SW.ZE, zero divide. -/
abbrev bitZE : Nat := 2
/-- SW.OE, overflow. -/
abbrev bitOE : Nat := 3
/-- SW.UE, underflow. -/
abbrev bitUE : Nat := 4
/-- SW.PE, precision. -/
abbrev bitPE : Nat := 5
/-- SW.SF, stack fault. -/
abbrev bitSF : Nat := 6
/-- SW.ES, exception summary. -/
abbrev bitES : Nat := 7
/-- SW.C0. -/
abbrev bitC0 : Nat := 8
/-- SW.C1. -/
abbrev bitC1 : Nat := 9
/-- SW.C2. -/
abbrev bitC2 : Nat := 10
/-- SW.C3. -/
abbrev bitC3 : Nat := 14
/-- SW.BUSY. -/
abbrev bitBusy : Nat := 15

/-- `TOP = SW[13:11]` (10_state.md R27). -/
def topOf (sw : Word) : Slot := sw.extractLsb' 11 3

/-- `sw` with the field TOP replaced. -/
def putTop (sw : Word) (t : Slot) : Word := (sw &&& 0xC7FF#16) ||| (t.setWidth 16 <<< 11)

/-- `tag(p) = TW[2p+1 : 2p]` (10_state.md R23). -/
def tagOfSlot (tw : Word) (p : Slot) : BitVec 2 := tw.extractLsb' (2 * p.toNat) 2

/-- `set_tag(p, t)`: `TW[2p+1:2p] <- t` (10_state.md R23). -/
def putTag (tw : Word) (p : Slot) (t : BitVec 2) : Word :=
  (tw &&& ~~~(3#16 <<< (2 * p.toNat))) ||| (t.setWidth 16 <<< (2 * p.toNat))

/-- The tag VALID (00_scope.md R14). -/
abbrev tagValid : BitVec 2 := 0#2
/-- The tag ZERO. -/
abbrev tagZero : BitVec 2 := 1#2
/-- The tag SPECIAL. -/
abbrev tagSpecial : BitVec 2 := 2#2
/-- The tag EMPTY. -/
abbrev tagEmpty : BitVec 2 := 3#2

/-- The six exception latches `SW[5:0]`, or the six masks `CW[5:0]`. -/
def low6 (w : Word) : BitVec 6 := w.extractLsb' 0 6

/-- The precision control `CW.PC` (10_state.md R35). -/
def pcOf (cw : Word) : BitVec 2 := cw.extractLsb' 8 2

/-- The rounding control `CW.RC` (10_state.md R36). -/
def rcOf (cw : Word) : BitVec 2 := cw.extractLsb' 10 2

/-- `x87_rc_table`: the kernel's rounding mode for a value of `CW.RC` (10_state.md R42). -/
def rcTable (rc : BitVec 2) : Rm :=
  match rc.toNat with
  | 0 => .rn
  | 1 => .rd
  | 2 => .ru
  | _ => .rz

end Sys2Proof.Machine
end

