-- ==== Sys2Proof/Machine/Value.lean ====
section
/-! DEFINITION. The value model (40_kernel_and_protocol.md section 1): the predicates on extended values, the tag by
inspection, the unpacked form the kernel computes with, and the three binary formats (R138) in and out of it. -/

namespace Sys2Proof

/-- `sign(v) = v.high[15]` (00_scope.md R10). -/
def Fx80.sign (v : Fx80) : Bool := v.high.getLsbD 15

/-- `exp(v) = v.high[14:0]`, the biased exponent. -/
def Fx80.exp (v : Fx80) : BitVec 15 := v.high.extractLsb' 0 15

/-- `J(v) = v.low[63]`, the explicit integer bit. -/
def Fx80.j (v : Fx80) : Bool := v.low.getLsbD 63

/-- `frac(v) = v.low[62:0]`. -/
def Fx80.frac (v : Fx80) : BitVec 63 := v.low.extractLsb' 0 63

/-- `is_zero` (40_kernel_and_protocol.md R131). -/
def Fx80.isZero (v : Fx80) : Bool := v.exp == 0#15 && v.low == 0#64

/-- `is_denormal` (R131). -/
def Fx80.isDenormal (v : Fx80) : Bool := v.exp == 0#15 && v.low != 0#64 && !v.j

/-- `is_inf` (R131): the integer bit is ignored. -/
def Fx80.isInf (v : Fx80) : Bool := v.exp == 0x7FFF#15 && v.frac == 0#63

/-- `is_nan` (R131): the integer bit is ignored. -/
def Fx80.isNan (v : Fx80) : Bool := v.exp == 0x7FFF#15 && v.frac != 0#63

/-- `is_snan` (R131): a NaN whose quiet bit `F[62]`, which is bit 62 of `low`, is 0. -/
def Fx80.isSnan (v : Fx80) : Bool := v.isNan && !v.low.getLsbD 62

/-- `is_qnan` (R131). -/
def Fx80.isQnan (v : Fx80) : Bool := v.isNan && v.low.getLsbD 62

/-- `is_finite` (R131). -/
def Fx80.isFinite (v : Fx80) : Bool := v.exp != 0x7FFF#15

/-- `is_unsupported` (R131): an unnormal, a pseudo-infinity or a pseudo-NaN. -/
def Fx80.isUnsupported (v : Fx80) : Bool := v.exp != 0#15 && !v.j

/-- `v` with the sign bit replaced. -/
def Fx80.withSign (v : Fx80) (s : Bool) : Fx80 :=
  ⟨if s then v.high ||| 0x8000#16 else v.high &&& 0x7FFF#16, v.low⟩

/-- `v` with the sign bit inverted. -/
def Fx80.neg (v : Fx80) : Fx80 := v.withSign (!v.sign)

end Sys2Proof

namespace Sys2Proof.Machine

/-- The indefinite NaN (00_scope.md R14). -/
def indef : Fx80 := ⟨0xFFFF#16, 0xC000000000000000#64⟩
/-- +1.0 (R14). -/
def one : Fx80 := ⟨0x3FFF#16, 0x8000000000000000#64⟩
/-- +0.0 (R14). -/
def pzero : Fx80 := ⟨0x0000#16, 0x0000000000000000#64⟩
/-- -0.0 (R14). -/
def nzero : Fx80 := ⟨0x8000#16, 0x0000000000000000#64⟩
/-- Plus infinity (R14). -/
def pinf : Fx80 := ⟨0x7FFF#16, 0x8000000000000000#64⟩
/-- Minus infinity (R14). -/
def ninf : Fx80 := ⟨0xFFFF#16, 0x8000000000000000#64⟩

/-- `tag_of(v)`, the tag by inspection (40_kernel_and_protocol.md R135): ZERO, SPECIAL or VALID. -/
def tagOf (v : Fx80) : BitVec 2 :=
  if v.isZero then tagZero else if v.exp = 0x7FFF#15 then tagSpecial else tagValid

/-- The three binary formats (40_kernel_and_protocol.md R138). -/
inductive Fmt
  | ext
  | f64
  | f32
deriving DecidableEq, Repr

/-- The significand precision in bits, counting the leading bit (R138). -/
def Fmt.p : Fmt → Nat
  | .ext => 64
  | .f64 => 53
  | .f32 => 24

/-- The smallest normal exponent (R138). -/
def Fmt.emin : Fmt → Int
  | .ext => -16382
  | .f64 => -1022
  | .f32 => -126

/-- The largest exponent, which is also the bias (R138). -/
def Fmt.emax : Fmt → Int
  | .ext => 16383
  | .f64 => 1023
  | .f32 => 127

/-- The significand field of the quiet default NaN: in each format it converts to INDEF (40_kernel_and_protocol.md,
section 3). -/
def Fmt.defaultNan : Fmt → Nat
  | .ext => 0xC000000000000000
  | .f64 => 2 ^ 51
  | .f32 => 2 ^ 22

/-- What the kernel computes with: the class of a value of one of the formats, with its sign. A finite non-zero value
is `m * 2^e`; a NaN keeps its significand field as the format stores it. -/
inductive Val
  | zero (s : Bool)
  | inf (s : Bool)
  | nan (s : Bool) (sig : Nat)
  | fin (s : Bool) (m : Nat) (e : Int)
deriving DecidableEq, Repr

/-- `m * 2^k`, cut to an integer when `k` is negative. -/
def scale (m : Nat) (k : Int) : Nat :=
  if 0 ≤ k then m * 2 ^ k.toNat else m / 2 ^ (-k).toNat

/-- `floor(log2 (m * 2^e))` of a non-zero `m`. -/
def floorLog2 (m : Nat) (e : Int) : Int := (m.log2 : Int) + e

/-- The bits of a sign. -/
def signBit (s : Bool) : Nat := if s then 1 else 0

/-- The class and value of an extended value that is not unsupported (40_kernel_and_protocol.md R130, R132): a denormal
and a pseudo-denormal have the exponent of 1. -/
def unpackExt (v : Fx80) : Val :=
  if v.isNan then .nan v.sign v.low.toNat
  else if v.isInf then .inf v.sign
  else if v.isZero then .zero v.sign
  else .fin v.sign v.low.toNat ((max v.exp.toNat 1 : Nat) - 16446)

/-- The high word of sign `s` and biased exponent `e`. -/
def highWord (s : Bool) (e : Nat) : BitVec 16 := BitVec.ofNat 16 (signBit s * 0x8000 + e)

/-- The canonical encoding in the extended format (40_kernel_and_protocol.md R133). -/
def packExt : Val → Fx80
  | .zero s => ⟨highWord s 0, 0#64⟩
  | .inf s => ⟨highWord s 0x7FFF, 0x8000000000000000#64⟩
  | .nan s sig => ⟨highWord s 0x7FFF, BitVec.ofNat 64 sig⟩
  | .fin s m e =>
    let l := floorLog2 m e
    if -16382 ≤ l then ⟨highWord s (l + 16383).toNat, BitVec.ofNat 64 (scale m (e + 63 - l))⟩
    else ⟨highWord s 0, BitVec.ofNat 64 (scale m (e + 16445))⟩

/-- `enc(s, n)` of a natural number (R133). -/
def encNat (s : Bool) (n : Nat) : Fx80 := packExt (if n = 0 then .zero s else .fin s n 0)

/-- The value of a binary interchange word with `fb` fraction bits and `eb` exponent bits, bias `2^(eb-1) - 1`
(40_kernel_and_protocol.md R138). -/
def unpackNarrow (fb eb : Nat) (w : Nat) : Val :=
  let frac := w % 2 ^ fb
  let ex := w / 2 ^ fb % 2 ^ eb
  let s := decide (w / 2 ^ (fb + eb) % 2 = 1)
  let bias : Int := 2 ^ (eb - 1) - 1
  if ex = 2 ^ eb - 1 then (if frac = 0 then .inf s else .nan s frac)
  else if ex = 0 then (if frac = 0 then .zero s else .fin s frac (1 - bias - fb))
  else .fin s (2 ^ fb + frac) ((ex : Int) - bias - fb)

/-- The encoding of a value that the interchange format holds exactly (R138). -/
def packNarrow (fb eb : Nat) (v : Val) : Nat :=
  let bias : Int := 2 ^ (eb - 1) - 1
  let top (s : Bool) (ex frac : Nat) : Nat := signBit s * 2 ^ (fb + eb) + ex * 2 ^ fb + frac
  match v with
  | .zero s => top s 0 0
  | .inf s => top s (2 ^ eb - 1) 0
  | .nan s sig => top s (2 ^ eb - 1) (sig % 2 ^ fb)
  | .fin s m e =>
    let l := floorLog2 m e
    if 1 - bias ≤ l then top s (l + bias).toNat (scale m (e + fb - l) % 2 ^ fb)
    else top s 0 (scale m (e + bias - 1 + fb))

/-- binary64 word to value. -/
def unpackF64 (w : BitVec 64) : Val := unpackNarrow 52 11 w.toNat
/-- binary32 word to value. -/
def unpackF32 (w : BitVec 32) : Val := unpackNarrow 23 8 w.toNat
/-- Value to binary64 word. -/
def packF64 (v : Val) : BitVec 64 := BitVec.ofNat 64 (packNarrow 52 11 v)
/-- Value to binary32 word. -/
def packF32 (v : Val) : BitVec 32 := BitVec.ofNat 32 (packNarrow 23 8 v)

end Sys2Proof.Machine
end

