-- ==== Sys2Proof/Machine/Kernel.lean ====
section
/-! DEFINITION. The arithmetic kernel (40_kernel_and_protocol.md sections 2 and 3): rounding, the operations of the
three formats, square root, round to integer, remainder, NaN selection, conversions. Everything is computed exactly on
natural numbers and rounded once. Each operation returns its value and the flags it adds to FX. -/

namespace Sys2Proof.Machine

/-- Both sets of flags: what two additions to FX leave (10_state.md R41). -/
def KFlags.union (a b : KFlags) : KFlags :=
  ⟨a.invalid || b.invalid, a.divbyzero || b.divbyzero, a.overflow || b.overflow, a.underflow || b.underflow,
    a.inexact || b.inexact⟩

/-- The flag `invalid` alone. -/
def KFlags.invalidOnly : KFlags := ⟨true, false, false, false, false⟩
/-- The flag `divbyzero` alone. -/
def KFlags.divbyzeroOnly : KFlags := ⟨false, true, false, false, false⟩
/-- The flag `inexact` when `b` holds. -/
def KFlags.inexactIf (b : Bool) : KFlags := ⟨false, false, false, false, b⟩

/-- What the kernel's operations depend on besides their operands: the rounding mode RM and NAN_SELECT. -/
structure KMode where
  rm : Rm
  nanSelect : NanSelect
deriving DecidableEq, Repr

/-- `rint_dir(rm, s, num / den)`: the rounding direction on a non-negative rational for a result of sign `s`
(40_kernel_and_protocol.md R139). -/
def rintDir (rm : Rm) (s : Bool) (num den : Nat) : Nat :=
  let q := num / den
  let r := num % den
  match rm with
  | .rn => if 2 * r < den then q else if den < 2 * r then q + 1 else if q % 2 = 0 then q else q + 1
  | .rz => q
  | .rd => if s && r != 0 then q + 1 else q
  | .ru => if !s && r != 0 then q + 1 else q

/-- The numerator of `num / den * 2^k` over the denominator `scaledDen den k`. -/
def scaledNum (num : Nat) (k : Int) : Nat := if 0 ≤ k then num * 2 ^ k.toNat else num

/-- The denominator that goes with `scaledNum`. -/
def scaledDen (den : Nat) (k : Int) : Nat := if 0 ≤ k then den else den * 2 ^ (-k).toNat

/-- `floor(log2 (num / den * 2^e))` of a positive rational. -/
def ratLog2 (num den : Nat) (e : Int) : Int :=
  let k : Int := (num.log2 : Int) - (den.log2 : Int)
  if scaledNum num (-k) < scaledDen den (-k) then k - 1 + e else k + e

/-- The result of an overflow: an infinity or the largest finite value, by mode and sign
(40_kernel_and_protocol.md R140 (3)). -/
def overflowVal (f : Fmt) (rm : Rm) (s : Bool) : Val :=
  let toInf := match rm with
    | .rn => true
    | .rz => false
    | .ru => !s
    | .rd => s
  if toInf then .inf s else .fin s (2 ^ f.p - 1) (f.emax - f.p + 1)

/-- `round_F(rm, x)` of the non-zero real `x = (-1)^s * num/den * 2^e` (40_kernel_and_protocol.md R140): tininess after
rounding, underflow only when tiny and inexact, overflow by mode. -/
def roundF (f : Fmt) (rm : Rm) (s : Bool) (num den : Nat) (e : Int) : Val × KFlags :=
  let l := ratLog2 num den e
  -- (1) tininess, on the precision without the bound of emin
  let ku : Int := l - f.p + 1
  let u := rintDir rm s (scaledNum num (e - ku)) (scaledDen den (e - ku))
  let tiny := decide (ku < f.emin ∧ u < 2 ^ (f.emin - ku).toNat)
  -- (2) the rounded value is y * 2^k
  let k : Int := max l f.emin - f.p + 1
  let n := scaledNum num (e - k)
  let d := scaledDen den (e - k)
  let y := rintDir rm s n d
  let inexact := n % d != 0
  -- (3) y * 2^k at or above 2^(emax+1)
  if f.emax + 1 < k ∨ 2 ^ (f.emax + 1 - k).toNat ≤ y then
    (overflowVal f rm s, ⟨false, false, true, false, true⟩)
  else
    (if y = 0 then .zero s else .fin s y k, ⟨false, false, false, tiny && inexact, inexact⟩)

/-- The bits of the significand field of a format. -/
def Fmt.sigBits : Fmt → Nat
  | .ext => 64
  | .f64 => 52
  | .f32 => 23

/-- The invalid result: `invalid` is added to FX and the default NaN returned (section 3). -/
def invalidVal (f : Fmt) : Val × KFlags := (.nan true f.defaultNan, KFlags.invalidOnly)

/-- The sign and significand field of a NaN as one number, for the parameter NAN_SELECT; every other value has image 0
(DESIGN CHOICE, notes/assumptions/7.md: see `otherQuiet`). -/
def nanImage (v : Val) : BitVec 80 :=
  match v with
  | .nan s sig => BitVec.ofNat 80 (signBit s * 2 ^ 79 + sig)
  | _ => 0#80

/-- Some quiet NaN of the format (93_implementation_defined.md U4), under `NanSelect.anyQuiet`. DESIGN CHOICE
(notes/assumptions/7.md, unsafe): the choice is one function, for every operation and format, of the NaNs among the two
operands and of the side each stands on; it depends neither on the operation nor on the value of an operand that is no
NaN, which the spec leaves open. -/
def otherQuiet (f : Fmt) (a b : Val) : Val :=
  let r := (Config.otherNan (nanImage a) (nanImage b)).toNat
  .nan (decide (r / 2 ^ 79 = 1)) (r % 2 ^ f.sigBits ||| f.defaultNan)

/-- NaN selection by the default rule (40_kernel_and_protocol.md R151): the only NaN, or the larger significand field,
ties to the positive one. -/
def largerNan (a b : Val) : Val :=
  match a, b with
  | .nan s m, .nan t n => if m < n then b else if n < m then a else if s then .nan t n else a
  | .nan _ _, _ => a
  | _, _ => b

/-- NaN selection: the value returned when at least one operand is a quiet NaN (R151). -/
def selectNan (f : Fmt) (sel : NanSelect) (a b : Val) : Val :=
  match sel with
  | .largerSignificand => largerNan a b
  | .anyQuiet => otherQuiet f a b

/-- Whether a kernel value is a NaN. -/
def Val.isNan : Val → Bool
  | .nan _ _ => true
  | _ => false

/-- Whether a kernel value is an infinity. -/
def Val.isInf : Val → Bool
  | .inf _ => true
  | _ => false

/-- `neg`: the sign bit flipped (R145). -/
def Val.neg : Val → Val
  | .zero s => .zero (!s)
  | .inf s => .inf (!s)
  | .nan s sig => .nan (!s) sig
  | .fin s m e => .fin (!s) m e

/-- The sign of an exact zero sum (40_kernel_and_protocol.md R141). -/
def zeroSumSign (rm : Rm) : Bool := match rm with
  | .rd => true
  | _ => false

/-- The signed integer `(-1)^s * m * 2^(e - e0)`, for `e0 ≤ e`. -/
def signedAt (e0 : Int) (s : Bool) (m : Nat) (e : Int) : Int :=
  let n : Nat := m * 2 ^ (e - e0).toNat
  if s then -(n : Int) else n

/-- The sum of two finite values, `m = 0` standing for a zero. -/
def addFinite (f : Fmt) (rm : Rm) (s : Bool) (m : Nat) (e : Int) (t : Bool) (n : Nat) (g : Int) : Val × KFlags :=
  let e0 := min e g
  let sum := signedAt e0 s m e + signedAt e0 t n g
  if sum = 0 then (.zero (zeroSumSign rm), KFlags.empty)
  else roundF f rm (decide (sum < 0)) sum.natAbs 1 e0

/-- `k_add_F(a, b)` (40_kernel_and_protocol.md R145). -/
def kAdd (f : Fmt) (k : KMode) (a b : Val) : Val × KFlags :=
  match a, b with
  | .nan s m, b => (selectNan f k.nanSelect (.nan s m) b, KFlags.empty)
  | a, .nan s m => (selectNan f k.nanSelect a (.nan s m), KFlags.empty)
  | .inf s, .inf t => if s = t then (.inf s, KFlags.empty) else invalidVal f
  | .inf s, _ => (.inf s, KFlags.empty)
  | _, .inf t => (.inf t, KFlags.empty)
  | .zero s, .zero t => (.zero (if s = t then s else zeroSumSign k.rm), KFlags.empty)
  | .zero s, .fin t n g => addFinite f k.rm s 0 g t n g
  | .fin s m e, .zero t => addFinite f k.rm s m e t 0 e
  | .fin s m e, .fin t n g => addFinite f k.rm s m e t n g

/-- `k_sub_F(a, b) = k_add_F(a, neg(b))` (R145); a NaN operand is selected as it is (R151: "unchanged in all its
bits"). -/
def kSub (f : Fmt) (k : KMode) (a b : Val) : Val × KFlags :=
  if b.isNan then kAdd f k a b else kAdd f k a b.neg

/-- `k_mul_F(a, b)` (40_kernel_and_protocol.md R146). -/
def kMul (f : Fmt) (k : KMode) (a b : Val) : Val × KFlags :=
  match a, b with
  | .nan s m, b => (selectNan f k.nanSelect (.nan s m) b, KFlags.empty)
  | a, .nan s m => (selectNan f k.nanSelect a (.nan s m), KFlags.empty)
  | .zero _, .inf _ => invalidVal f
  | .inf _, .zero _ => invalidVal f
  | .inf s, .inf t => (.inf (s ^^ t), KFlags.empty)
  | .inf s, .fin t _ _ => (.inf (s ^^ t), KFlags.empty)
  | .fin s _ _, .inf t => (.inf (s ^^ t), KFlags.empty)
  | .zero s, .zero t => (.zero (s ^^ t), KFlags.empty)
  | .zero s, .fin t _ _ => (.zero (s ^^ t), KFlags.empty)
  | .fin s _ _, .zero t => (.zero (s ^^ t), KFlags.empty)
  | .fin s m e, .fin t n g => roundF f k.rm (s ^^ t) (m * n) 1 (e + g)

/-- `k_div_F(a, b)` (40_kernel_and_protocol.md R147). -/
def kDiv (f : Fmt) (k : KMode) (a b : Val) : Val × KFlags :=
  match a, b with
  | .nan s m, b => (selectNan f k.nanSelect (.nan s m) b, KFlags.empty)
  | a, .nan s m => (selectNan f k.nanSelect a (.nan s m), KFlags.empty)
  | .inf _, .inf _ => invalidVal f
  | .zero _, .zero _ => invalidVal f
  | .inf s, .zero t => (.inf (s ^^ t), KFlags.empty)
  | .inf s, .fin t _ _ => (.inf (s ^^ t), KFlags.empty)
  | .zero s, .inf t => (.zero (s ^^ t), KFlags.empty)
  | .fin s _ _, .inf t => (.zero (s ^^ t), KFlags.empty)
  | .zero s, .fin t _ _ => (.zero (s ^^ t), KFlags.empty)
  | .fin s _ _, .zero t => (.inf (s ^^ t), KFlags.divbyzeroOnly)
  | .fin s m e, .fin t n g => roundF f k.rm (s ^^ t) m n (e - g)

/-- One digit of the integer square root, from bit `b` down: the largest `r` with `r * r ≤ n` that extends `acc`. -/
def isqrtFrom (n : Nat) : Nat → Nat → Nat
  | 0, acc => acc
  | b + 1, acc =>
    let c := acc + 2 ^ b
    isqrtFrom n b (if c * c ≤ n then c else acc)

/-- `floor(sqrt n)` for `n < 2^(2*bits)`. -/
def isqrt (bits n : Nat) : Nat := isqrtFrom n bits 0

/-- `round_ext(rm, sqrt(m * 2^e))` of a positive value. The root is scaled to at least 66 bits; when it is not exact, the
half unit added puts the rational that is rounded strictly between the same two multiples of a quarter of the last
place as the root itself. -/
def sqrtFinite (rm : Rm) (m : Nat) (e : Int) : Val × KFlags :=
  let sh : Nat := 134 - m.log2
  let e' := e - sh
  let pad : Nat := if e' % 2 = 0 then 0 else 1
  let n := m * 2 ^ (sh + pad)
  let r := isqrt 70 n
  let x := if r * r = n then 2 * r else 2 * r + 1
  roundF .ext rm false x 2 ((e' - pad) / 2)

/-- `k_sqrt(a)` (40_kernel_and_protocol.md R148), extended format. -/
def kSqrt (k : KMode) (a : Val) : Val × KFlags :=
  match a with
  | .nan s sig => (.nan s sig, KFlags.empty)
  | .inf s => if s then invalidVal .ext else (.inf false, KFlags.empty)
  | .zero s => (.zero s, KFlags.empty)
  | .fin s m e => if s then invalidVal .ext else sqrtFinite k.rm m e

/-- `rint_dir` of `m * 2^e`, and whether it changed the value (40_kernel_and_protocol.md R149). -/
def rintFinite (rm : Rm) (s : Bool) (m : Nat) (e : Int) : Nat × Bool :=
  let n := scaledNum m e
  let d := scaledDen 1 e
  (rintDir rm s n d, n % d != 0)

/-- `k_rint(rm, a)` (40_kernel_and_protocol.md R149) on an extended value: a NaN, an infinity and a zero unchanged, else
the integer chosen by the mode, with the sign of `a`. -/
def kRint (rm : Rm) (a : Fx80) : Fx80 × KFlags :=
  match unpackExt a with
  | .fin s m e =>
    let (n, inexact) := rintFinite rm s m e
    (encNat s n, KFlags.inexactIf inexact)
  | _ => (a, KFlags.empty)

/-- `k_rem(a, b)`, the IEEE remainder in extended format (40_kernel_and_protocol.md R150). -/
def kRem (k : KMode) (a b : Val) : Val × KFlags :=
  match a, b with
  | .nan s m, b => (selectNan .ext k.nanSelect (.nan s m) b, KFlags.empty)
  | a, .nan s m => (selectNan .ext k.nanSelect a (.nan s m), KFlags.empty)
  | .inf _, _ => invalidVal .ext
  | _, .zero _ => invalidVal .ext
  | a, .inf _ => (a, KFlags.empty)
  | .zero s, _ => (.zero s, KFlags.empty)
  | .fin s m e, .fin _ n g =>
    let e0 := min e g
    let x := m * 2 ^ (e - e0).toNat
    let y := n * 2 ^ (g - e0).toNat
    let q := rintDir .rn false x y
    if x = q * y then (.zero s, KFlags.empty)
    else if q * y < x then (.fin s (x - q * y) e0, KFlags.empty)
    else (.fin (!s) (q * y - x) e0, KFlags.empty)

/-- Narrowing of an extended value to `f` under RM (40_kernel_and_protocol.md R152): a NaN keeps its sign and the top
bits of its fraction and becomes quiet. -/
def narrow (f : Fmt) (rm : Rm) (a : Fx80) : Val × KFlags :=
  match unpackExt a with
  | .nan s _ =>
    let top := a.low.toNat % 2 ^ 63 / 2 ^ (63 - f.sigBits)
    (.nan s (f.defaultNan ||| top), KFlags.empty)
  | .fin s m e => roundF f rm s m 1 e
  | v => (v, KFlags.empty)

/-- `k_to_f64` (R152). -/
def kToF64 (rm : Rm) (a : Fx80) : BitVec 64 × KFlags :=
  let (v, fl) := narrow .f64 rm a
  (packF64 v, fl)

/-- `k_to_f32` (R152). -/
def kToF32 (rm : Rm) (a : Fx80) : BitVec 32 × KFlags :=
  let (v, fl) := narrow .f32 rm a
  (packF32 v, fl)

/-- Widening of a value of a narrow format to the extended format, exact (40_kernel_and_protocol.md R153): a NaN's
fraction moves to the top of the significand. -/
def widen (f : Fmt) (v : Val) : Fx80 :=
  match v with
  | .nan s sig => packExt (.nan s (0xC000000000000000 ||| sig * 2 ^ (63 - f.sigBits)))
  | v => packExt v

/-- `k_from_f64` (R153). -/
def kFromF64 (w : BitVec 64) : Fx80 := widen .f64 (unpackF64 w)

/-- `k_from_f32` (R153). -/
def kFromF32 (w : BitVec 32) : Fx80 := widen .f32 (unpackF32 w)

/-- `k_from_int(n)` (40_kernel_and_protocol.md R154), exact. -/
def kFromInt (n : Int) : Fx80 := encNat (decide (n < 0)) n.natAbs

/-- The four operations of the facade (40_kernel_and_protocol.md R156). -/
inductive ArithOp
  | add
  | sub
  | mul
  | div
deriving DecidableEq, Repr

/-- `k_op_F`. -/
def kOp (op : ArithOp) (f : Fmt) (k : KMode) (a b : Val) : Val × KFlags :=
  match op with
  | .add => kAdd f k a b
  | .sub => kSub f k a b
  | .mul => kMul f k a b
  | .div => kDiv f k a b

/-- A facade operation in a narrow format: both operands narrowed, the operation there, the result widened; the flags
of all three accumulate (40_kernel_and_protocol.md R156). -/
def facadeNarrow (op : ArithOp) (f : Fmt) (k : KMode) (x y : Fx80) : Fx80 × KFlags :=
  let (a, fa) := narrow f k.rm x
  let (b, fb) := narrow f k.rm y
  let (r, fr) := kOp op f k a b
  (widen f r, (fa.union fb).union fr)

/-- A facade operation in the extended format. -/
def facadeExt (op : ArithOp) (k : KMode) (x y : Fx80) : Fx80 × KFlags :=
  let (r, fr) := kOp op .ext k (unpackExt x) (unpackExt y)
  (packExt r, fr)

/-- `facade_op(x, y)` by `CW.PC` (40_kernel_and_protocol.md R156); none for the reserved value 01, whose result the spec
does not give (93_implementation_defined.md U1). -/
def facade (op : ArithOp) (pc : BitVec 2) (k : KMode) (x y : Fx80) : Option (Fx80 × KFlags) :=
  match pc.toNat with
  | 0 => some (facadeNarrow op .f32 k x y)
  | 2 => some (facadeNarrow op .f64 k x y)
  | 3 => some (facadeExt op k x y)
  | _ => none

end Sys2Proof.Machine
end

