-- ==== Sys2Proof/Machine/Memory.lean ====
section
/-! DEFINITION. The host's memory behind `READ*` and `WRITE*` (20_memory.md R70 to R75), and the host's refusal of an
access (R78, R79). -/

namespace Sys2Proof.Machine

/-- What an unlisted address reads as: DESIGN CHOICE, unsafe (notes/assumptions/3.md). -/
def Memory.background : Byte := 0x00#8

/-- The byte at address `a`. -/
def Memory.read (mem : Memory) (a : Addr) : Byte :=
  match mem.find? (fun c => c.1 == a.toNat) with
  | some c => c.2
  | none => Memory.background

/-- `c` put in its place in a list by rising address. -/
def Memory.insert (c : Host.Cell) : Memory → Memory
  | [] => [c]
  | d :: rest => if c.1 < d.1 then c :: d :: rest else d :: Memory.insert c rest

/-- `mem` with the byte at address `a` set to `b`. -/
def Memory.write (mem : Memory) (a : Addr) (b : Byte) : Memory :=
  let others := mem.filter (fun c => c.1 != a.toNat)
  if b = Memory.background then others else Memory.insert (a.toNat, b) others

/-- The `n`-byte little-endian unsigned integer at `a`, each address taken modulo 2^32 (20_memory.md R71, R72;
notes/assumptions/14.md). -/
def Memory.readLE (mem : Memory) : Nat → Addr → Nat
  | 0, _ => 0
  | n + 1, a => (mem.read a).toNat + 256 * mem.readLE n (a + 1)

/-- The `n` low bytes of `v` stored at `a`, the lowest first. -/
def Memory.writeLE (mem : Memory) : Nat → Addr → Nat → Memory
  | 0, _, _ => mem
  | n + 1, a, v => (mem.write a (BitVec.ofNat 8 v)).writeLE n (a + 1) (v / 256)

/-- Whether a cell is below every cell of a list, and so on down the list. -/
def Memory.sorted : Memory → Bool
  | [] => true
  | [_] => true
  | c :: d :: rest => decide (c.1 < d.1) && Memory.sorted (d :: rest)

/-- The canonical form: addresses strictly rising and below 2^32, no cell that says what an unlisted address says. -/
def Memory.wf (mem : Memory) : Bool :=
  Memory.sorted mem && mem.all (fun c => decide (c.1 < 2 ^ 32) && c.2 != Memory.background)

/-- Whether `a` is one of the `n` bytes from `base` (20_memory.md R72), addresses modulo 2^32. -/
def inBytes (base : Addr) (n : Nat) (a : Addr) : Bool := decide ((a - base).toNat < n)

/-- How a handler leaves off: it returns, or a host callback ended it, by a host-level fault (20_memory.md R79) or by an
`i386_trap` that does not return (70_reset_and_hazards.md R553), with the state that stands then. -/
inductive Ended
  | done (s : State)
  | abort (s : State)
deriving DecidableEq, Repr

/-- The next part of a handler, unless the host has ended it. -/
def Ended.andThen (e : Ended) (k : State → Ended) : Ended :=
  match e with
  | .done s => k s
  | .abort s => .abort s

/-- The state a handler leaves. -/
def Ended.state : Ended → State
  | .done s => s
  | .abort s => s

/-- Whether the host faults an access of this kind to the `n` bytes from `a` (20_memory.md R78, R79). -/
def State.guarded (s : State) (acc : Access) (a : Addr) (n : Nat) : Bool :=
  s.guards.any fun g =>
    g.access == acc && (List.range n).any fun k => g.lo ≤ a + BitVec.ofNat 32 k && a + BitVec.ofNat 32 k ≤ g.hi

/-- A host-level fault: the handler is over, the fault is recorded, and nothing else changes (20_memory.md R79). -/
def hostFaulted (acc : Access) (a : Addr) (s : State) : Ended := .abort { s with hostFault := some ⟨acc, a⟩ }

/-- `GetEA(modrm, rw)`, called once by every memory form before anything else (20_memory.md R71). -/
def getEa (rw : Bool) (m : MemOperand) (s : State) (k : Addr → Ended) : Ended :=
  if s.guarded (.getEa rw) m.ea 1 then hostFaulted (.getEa rw) m.ea s else k m.ea

/-- `MemRead(a, n)` (20_memory.md R73). -/
def hostRead (n : Nat) (a : Addr) (s : State) (k : Nat → Ended) : Ended :=
  if s.guarded .read a n then hostFaulted .read a s else k (s.mem.readLE n a)

/-- `MemWrite(a, n, v)` (20_memory.md R73). A write of which the host refuses any byte writes none of its bytes: how a
callback splits an access is the host's (R77), and R79 keeps only the writes made earlier in the instruction (DESIGN
CHOICE, notes/assumptions/13.md). -/
def hostWrite (n : Nat) (a : Addr) (v : Nat) (s : State) : Ended :=
  if s.guarded .write a n then hostFaulted .write a s else .done { s with mem := s.mem.writeLE n a v }

/-- `MemRead80(a)`: the low part first (20_memory.md R75). -/
def hostRead80 (a : Addr) (s : State) (k : Fx80 → Ended) : Ended :=
  hostRead 8 a s fun lo => hostRead 2 (a + 8) s fun hi => k ⟨BitVec.ofNat 16 hi, BitVec.ofNat 64 lo⟩

/-- `MemWrite80(a, v)`: the low part first (20_memory.md R75). -/
def hostWrite80 (a : Addr) (v : Fx80) (s : State) : Ended :=
  (hostWrite 8 a v.low.toNat s).andThen (hostWrite 2 (a + 8) v.high.toNat)

end Sys2Proof.Machine
end

