-- ==== Sys2Proof/Machine/Ops.lean ====
section
/-! DEFINITION. The named operations of the handlers: the latches, the register stack (40_kernel_and_protocol.md
section 5), the exception funnel with the math-fault request (R165; 60_exceptions.md R506), `write_cw`, reset and
`FINIT`, the free values, and the end of a handler. There is no return from an exception: the block has no such
instruction and no in-trap state (60_exceptions.md R514). -/

namespace Sys2Proof.Machine

/-! ## Latches and the kernel's flags -/

/-- A bit of SW set (10_state.md R26: instruction execution sets a latch and never clears one). -/
def latch (n : Nat) (s : State) : State := { s with sw := putBit s.sw n true }

/-- A bit of SW set when `b` holds. -/
def latchIf (b : Bool) (n : Nat) (s : State) : State := if b then latch n s else s

/-- Kernel flags added to FX (10_state.md R41). -/
def addFx (f : KFlags) (s : State) : State := { s with fx := s.fx.union f }

/-- What the kernel reads of the state. -/
def State.kmode (s : State) : KMode := ⟨s.rm, s.params.nanSelect⟩

/-! ## The register stack -/

/-- `TOP` (10_state.md R27). -/
def State.top (s : State) : Slot := topOf s.sw

/-- `phys(i) = (TOP + i) mod 8` (10_state.md R21). -/
def State.phys (s : State) (i : Slot) : Slot := s.top + i

/-- The value of physical slot `p`. -/
def State.reg (s : State) (p : Slot) : Fx80 := s.regs[p.toNat]

/-- `ST(i)` (10_state.md R21). -/
def State.st (s : State) (i : Slot) : Fx80 := s.reg (s.phys i)

/-- `tag(phys(i))` (10_state.md R23). -/
def State.tag (s : State) (i : Slot) : BitVec 2 := tagOfSlot s.tw (s.phys i)

/-- `is_empty(i)` (40_kernel_and_protocol.md R157). -/
def State.isEmpty (s : State) (i : Slot) : Bool := s.tag i == tagEmpty

/-- `R[p] <- v; set_tag(p, t)`. -/
def setSlot (p : Slot) (v : Fx80) (t : BitVec 2) (s : State) : State :=
  { s with regs := s.regs.set p.toNat v, tw := putTag s.tw p t }

/-- `TOP <- t`. -/
def setTop (t : Slot) (s : State) : State := { s with sw := putTop s.sw t }

/-- `set_stack_underflow()` (40_kernel_and_protocol.md R158). -/
def setStackUnderflow (s : State) : State :=
  { s with sw := putBit (putBit (putBit s.sw bitSF true) bitIE true) bitC1 false }

/-- `set_stack_overflow()` (R159). -/
def setStackOverflow (s : State) : State :=
  { s with sw := putBit (putBit (putBit s.sw bitSF true) bitIE true) bitC1 true }

/-- Whether one of the stack operands of an instruction is absent (R164). -/
def State.anyEmpty (s : State) (is : List Slot) : Bool := is.any s.isEmpty

/-- The stack checks of the source operands, `operand(k)` for each (R164). A stack underflow found twice leaves what it
leaves once. -/
def checkOperands (is : List Slot) (s : State) : State := if s.anyEmpty is then setStackUnderflow s else s

/-- Whether `push_check()` answers OVERFLOW (R160). -/
def State.full (s : State) : Bool := !s.isEmpty 7

/-- The effect of `push_check()` on SW (R160). -/
def pushCheck (s : State) : State := if s.full then setStackOverflow s else s

/-- `push_commit(v, t)` (R161). -/
def pushCommit (v : Fx80) (t : BitVec 2) (s : State) : State := setSlot (s.top + 7) v t (setTop (s.top + 7) s)

/-- The movement of `pop()`: the top tagged EMPTY, TOP advanced (R162). -/
def popMove (s : State) : State := setTop (s.top + 1) { s with tw := putTag s.tw s.top tagEmpty }

/-- `pop()` (R162): the test for an EMPTY top comes first. -/
def pop (s : State) : State :=
  if s.isEmpty 0 then
    let u := setStackUnderflow s
    if s.cw.getLsbD 0 then popMove u else u
  else popMove s

/-- `write_stack(i, v, true)`: the value, and its tag by inspection (R163). -/
def writeStack (i : Slot) (v : Fx80) (s : State) : State := setSlot (s.phys i) v (tagOf v) s

/-! ## The control word -/

/-- `write_cw(v)` (10_state.md R37): CW, and RM from its RC field. -/
def writeCw (v : Word) (s : State) : State := { s with cw := v, rm := rcTable (rcOf v) }

/-- What `FINIT` leaves (47_control.md R425). -/
def initFpu (s : State) : State :=
  { writeCw 0x037F#16 s with sw := 0x0000#16, tw := 0xFFFF#16, fip := 0#32, fdp := 0#32, fop := 0#16 }

/-- `reset()` (70_reset_and_hazards.md R540): as `FINIT`, and FX cleared. -/
def resetFpu (s : State) : State := { initFpu s with fx := KFlags.empty }

/-! ## The exception funnel -/

/-- `pending = SW[5:0] & ~CW[5:0]` (40_kernel_and_protocol.md R165). -/
def pendingOf (cw sw : Word) : BitVec 6 := low6 sw &&& ~~~low6 cw

/-- Whether an unmasked exception is pending. -/
def State.pending (s : State) : Bool := pendingOf s.cw s.sw != 0#6

/-- FX drained into the latches (R165; the `divbyzero` line is 90_conflicts.md C1). -/
def drainFx (s : State) : State :=
  { latchIf s.fx.inexact bitPE (latchIf s.fx.underflow bitUE (latchIf s.fx.overflow bitOE
      (latchIf s.fx.divbyzero bitZE (latchIf s.fx.invalid bitIE s)))) with fx := KFlags.empty }

/-- `raise MF`, the whole of taking an exception in this block (60_exceptions.md R506, R513): the request to the host,
made on a host that honours it. Nothing is saved and no mode changes. -/
def raiseMf (s : State) : State := if s.honorsMf then { s with mfRequest := true } else s

/-- `check_exceptions()`'s effect on the state (40_kernel_and_protocol.md R165). -/
def checkExceptions (s : State) : State :=
  let d := drainFx s
  let e := { d with sw := putBit d.sw bitES d.pending }
  if d.pending then raiseMf e else e

/-- Whether a math fault raised now ends the handler: the host honours it, and its `i386_trap` does not return to the
block (70_reset_and_hazards.md R553). -/
def State.trapLeaves (s : State) : Bool := s.honorsMf && !s.trapReturns

/-- The end of a failed funnel: the state is final, and whether the handler goes on to its cycle report is the host's
(70_reset_and_hazards.md R553; notes/assumptions/22.md). -/
def afterRequest (s : State) : Ended := if s.trapLeaves then .abort s else .done s

/-- Steps 5 and 6 of the handler protocol (R170, R172): the funnel, and the commit only when it succeeds. -/
def funnel (commit : State → Ended) (s : State) : Ended :=
  let e := checkExceptions s
  if e.pending then afterRequest e else commit e

/-! ## Free values -/

/-- The next free value, of `w` bits (notes/assumptions/17.md). -/
def drawn (w : Nat) (s : State) : BitVec w := Config.freeBits w s.free

/-- One free value is used up. -/
def skipFree (s : State) : State := { s with free := s.free + 1 }

/-- Five bits as kernel flags. -/
def flagsOfBits (b : BitVec 5) : KFlags :=
  ⟨b.getLsbD 0, b.getLsbD 1, b.getLsbD 2, b.getLsbD 3, b.getLsbD 4⟩

/-- Free kernel flags added to FX: what an operation raises whose result the spec leaves open. -/
def addFreeFlags (s : State) : State := skipFree (addFx (flagsOfBits (drawn 5 s)) s)

/-- 80 bits as an extended value. -/
def fxOfBits (b : BitVec 80) : Fx80 := ⟨b.extractLsb' 64 16, b.extractLsb' 0 64⟩

/-- A free extended value with free flags: the result of an operation the spec gives none for. -/
def freeResult (s : State) : Fx80 × State := (fxOfBits (drawn 80 s), addFreeFlags (skipFree s))

/-! ## The end of a handler -/

/-- Step 7 of the protocol: `CYCLES(CYCLES[op])`, always, but for a handler the host has ended by a host-level fault
(20_memory.md R79; notes/assumptions/13.md) or by an `i386_trap` that does not return, which loses the cycle report
(40_kernel_and_protocol.md R170, R175; 70_reset_and_hazards.md R553, R556; notes/assumptions/22.md). -/
def finish (i : Instr) (e : Ended) : Result :=
  match e with
  | .done s => .next { s with cycles := s.cycles + s.params.cycles.getD i.row 0 }
  | .abort s => .next s

end Sys2Proof.Machine
end

