-- ==== Sys2Proof/Machine/Codecs.lean ====
section
/-! DEFINITION. The decoders and encoders of the memory formats (41_codecs.md). A decoder answers the value and whether
it latches IE; an encoder answers the image and the state with its latches and kernel flags. -/

namespace Sys2Proof.Machine

/-- The number of bits of an integer format (41_codecs.md R190). -/
def IntWidth.bits : IntWidth → Nat
  | .w16 => 16
  | .w32 => 32
  | .w64 => 64

/-- The number of bytes of an integer format. -/
def IntWidth.bytes : IntWidth → Nat
  | .w16 => 2
  | .w32 => 4
  | .w64 => 8

/-- `w` is a signaling NaN of binary32 (41_codecs.md R191). -/
def isSnanF32 (w : BitVec 32) : Bool :=
  w.extractLsb' 23 8 == 0xFF#8 && !w.getLsbD 22 && w.extractLsb' 0 22 != 0#22

/-- `w` is a signaling NaN of binary64 (R192). -/
def isSnanF64 (w : BitVec 64) : Bool :=
  w.extractLsb' 52 11 == 0x7FF#11 && !w.getLsbD 51 && w.extractLsb' 0 51 != 0#51

/-- `is_denormal_f32(w)` (R193). -/
def isDenormalF32 (w : BitVec 32) : Bool := w.extractLsb' 23 8 == 0#8 && w.extractLsb' 0 23 != 0#23

/-- `is_denormal_f64(w)` (R193). -/
def isDenormalF64 (w : BitVec 64) : Bool := w.extractLsb' 52 11 == 0#11 && w.extractLsb' 0 52 != 0#52

/-- `dec_f32(w)` (R191). -/
def decF32 (w : BitVec 32) : Fx80 × Bool := if isSnanF32 w then (indef, true) else (kFromF32 w, false)

/-- `dec_f64(w)` (R192). -/
def decF64 (w : BitVec 64) : Fx80 × Bool := if isSnanF64 w then (indef, true) else (kFromF64 w, false)

/-- `dec_int(w, n)` (R197). -/
def decInt {n : Nat} (w : BitVec n) : Fx80 := kFromInt w.toInt

/-- `enc_f32(v)` (R194); the image of an unsupported encoding is free (notes/assumptions/9.md). -/
def encF32 (v : Fx80) (s : State) : BitVec 32 × State :=
  if v.isUnsupported then (drawn 32 s, addFreeFlags (skipFree s))
  else if v.isSnan then (0xFFC00000#32, latch bitIE s)
  else let r := kToF32 s.rm v
    (r.1, addFx r.2 s)

/-- `enc_f64(v)` (R195). -/
def encF64 (v : Fx80) (s : State) : BitVec 64 × State :=
  if v.isUnsupported then (drawn 64 s, addFreeFlags (skipFree s))
  else if v.isSnan then (0xFFF8000000000000#64, latch bitIE s)
  else let r := kToF64 s.rm v
    (r.1, addFx r.2 s)

/-- `trunc(val(v))` of a finite value (00_scope.md R12): the integer itself where `k_rint` returned one. -/
def integerOf (v : Fx80) : Int :=
  match unpackExt v with
  | .fin s m e => if s then -(scale m e : Int) else scale m e
  | _ => 0

/-- The integer indefinite of a width (R198). -/
def intIndefinite (n : Nat) : BitVec n := BitVec.ofNat n (2 ^ (n - 1))

/-- `enc_int(v, n)` (R198): the rounding's `inexact` stays when the range check fails. -/
def encInt (n : Nat) (v : Fx80) (s : State) : BitVec n × State :=
  if v.isUnsupported then (drawn n s, addFreeFlags (skipFree s))
  else if v.isNan || v.isInf then (intIndefinite n, latch bitIE s)
  else
    let r := kRint s.rm v
    let k := integerOf r.1
    let t := addFx r.2 s
    if k < -(2 ^ (n - 1) : Int) ∨ (2 ^ (n - 1) : Int) - 1 < k then (intIndefinite n, latch bitIE t)
    else (BitVec.ofInt n k, t)

/-- The sum of `n` decimal digits of a nibble string, the least significant first (R206): nibbles above 9 enter with
their value. -/
def digitsToNat : Nat → Nat → Nat
  | 0, _ => 0
  | n + 1, x => x % 16 + 10 * digitsToNat n (x / 16)

/-- `n` decimal digits of a number, one to a nibble, the least significant first (R207). -/
def natToDigits : Nat → Nat → Nat
  | 0, _ => 0
  | n + 1, x => x % 10 + 16 * natToDigits n (x / 10)

/-- `dec_bcd(m)` (R205, R206): digits 0 to 15 in `low`, 16 and 17 in `high[7:0]`, the sign in `high[15]`. -/
def decBcd (m : Fx80) : Fx80 :=
  let n := digitsToNat 18 (m.low.toNat + 2 ^ 64 * (m.high.toNat % 256))
  (encNat false n).withSign (m.high.getLsbD 15)

/-- `enc_bcd(s, n)` (R207). -/
def encBcd (s : Bool) (n : Nat) : Fx80 :=
  let x := natToDigits 18 n
  ⟨BitVec.ofNat 16 (x / 2 ^ 64 + signBit s * 0x8000), BitVec.ofNat 64 x⟩

/-- The packed-BCD indefinite image (R209). -/
def bcdIndefinite : Fx80 := ⟨0xFFFF#16, 0xC000000000000000#64⟩

/-- The image `FBSTP` stores of a present operand (42_load_store.md R254): truncation whatever CW.RC. -/
def bcdImage (v : Fx80) (s : State) : Fx80 × State :=
  if v.isUnsupported then freeResult s
  else if v.isNan || v.isInf then (bcdIndefinite, latch bitIE s)
  else
    let r := kRint .rz v
    let n := (integerOf r.1).natAbs
    let t := addFx r.2 s
    if 10 ^ 18 ≤ n then (bcdIndefinite, latch bitIE t) else (encBcd v.sign n, t)

/-- A memory source operand of the arithmetic, compare and load instructions (R190). -/
inductive MemSrc
  | f32
  | f64
  | int (w : IntWidth)
deriving DecidableEq, Repr

/-- The number of bytes read (20_memory.md R74). -/
def MemSrc.bytes : MemSrc → Nat
  | .f32 => 4
  | .f64 => 8
  | .int w => w.bytes

/-- The decoder of a memory source, on the integer `MemRead` returns (43_arithmetic.md R271). -/
def MemSrc.decode (f : MemSrc) (w : Nat) : Fx80 × Bool :=
  match f with
  | .f32 => decF32 (BitVec.ofNat 32 w)
  | .f64 => decF64 (BitVec.ofNat 64 w)
  | .int n => (decInt (BitVec.ofNat n.bits w), false)

/-- Whether the image is a denormal that `FLD` screens (R193); an integer never is. -/
def MemSrc.denormal (f : MemSrc) (w : Nat) : Bool :=
  match f with
  | .f32 => isDenormalF32 (BitVec.ofNat 32 w)
  | .f64 => isDenormalF64 (BitVec.ofNat 64 w)
  | .int _ => false

end Sys2Proof.Machine
end

