-- ==== Sys2Proof/Machine/Operands.lean ====
section
/-! DEFINITION. The operand forms (30_encoding.md R104): a memory source, read at once after `GetEA` whatever the stack
checks will say (20_memory.md R71, R76; 40_kernel_and_protocol.md R170); a memory destination. The stack operands
`ST(i)` are `State.st` and `checkOperands` of Ops.lean. -/

namespace Sys2Proof.Machine

/-- A memory source operand: `GetEA(modrm, 0)`, then the read of its width; `k` is given the integer read. -/
def memWord (n : Nat) (m : MemOperand) (s : State) (k : Nat → Ended) : Ended :=
  getEa false m s fun ea => hostRead n ea s k

/-- A decoded memory source operand (43_arithmetic.md R271): the value, whether it was a signaling NaN, and the state
with the IE that the decoder latches. -/
def memSource (f : MemSrc) (m : MemOperand) (s : State) (k : Fx80 → Bool → State → Ended) : Ended :=
  memWord f.bytes m s fun w =>
    let d := f.decode w
    k d.1 d.2 (latchIf d.2 bitIE s)

/-- An 80-bit memory source operand. -/
def memSource80 (m : MemOperand) (s : State) (k : Fx80 → Ended) : Ended :=
  getEa false m s fun ea => hostRead80 ea s k

/-- A memory destination: `GetEA(modrm, 1)`. -/
def memDest (m : MemOperand) (s : State) (k : Addr → Ended) : Ended := getEa true m s k

end Sys2Proof.Machine
end

