-- ==== Sys2Proof/Machine/LoadStore.lean ====
section
/-! DEFINITION. Loads, constant loads and stores (42_load_store.md). -/

namespace Sys2Proof.Machine

/-! ## Loads -/

/-- The load template (42_load_store.md R220): the push check, the funnel, the push. -/
def load (v : Fx80) (s : State) : Ended :=
  let r := if s.full then indef else v
  funnel (fun t => .done (pushCommit r (tagOf r) t)) (pushCheck s)

/-- `FLD m32real` and `FLD m64real` (R221, R222): a signaling NaN or a denormal image latches IE and loads INDEF. -/
def loadReal (f : MemSrc) (m : MemOperand) (s : State) : Ended :=
  memWord f.bytes m s fun w =>
    if (f.decode w).2 || f.denormal w then load indef (latch bitIE s) else load (f.decode w).1 s

/-- `FILD` (R225 to R227). -/
def loadInt (w : IntWidth) (m : MemOperand) (s : State) : Ended :=
  memSource (.int w) m s fun v _ t => load v t

/-- `FLD ST(i)` (R224): the source check, then the template. -/
def loadSt (i : Slot) (s : State) : Ended :=
  load (if s.isEmpty i then indef else s.st i) (checkOperands [i] s)

/-- `FLD m32real` (42_load_store.md R221). -/
def execFldM32real (m : MemOperand) (s : State) : Result :=
  finish (.fldM32real m) (loadReal .f32 m s)

/-- `FLD m64real` (42_load_store.md R222). -/
def execFldM64real (m : MemOperand) (s : State) : Result :=
  finish (.fldM64real m) (loadReal .f64 m s)

/-- `FLD m80real` (42_load_store.md R223). -/
def execFldM80real (m : MemOperand) (s : State) : Result :=
  finish (.fldM80real m) (memSource80 m s fun v => load v s)

/-- `FLD ST(i)` (42_load_store.md R224). -/
def execFldSti (i : Slot) (s : State) : Result :=
  finish (.fldSti i) (loadSt i s)

/-- `FILD m16int` (42_load_store.md R225). -/
def execFildM16int (m : MemOperand) (s : State) : Result :=
  finish (.fildM16int m) (loadInt .w16 m s)

/-- `FILD m32int` (42_load_store.md R226). -/
def execFildM32int (m : MemOperand) (s : State) : Result :=
  finish (.fildM32int m) (loadInt .w32 m s)

/-- `FILD m64int` (42_load_store.md R227). -/
def execFildM64int (m : MemOperand) (s : State) : Result :=
  finish (.fildM64int m) (loadInt .w64 m s)

/-- `FBLD m80bcd` (42_load_store.md R228). -/
def execFbld (m : MemOperand) (s : State) : Result :=
  finish (.fbld m) (memSource80 m s fun v => load (decBcd v) s)

/-! ## Constant loads -/

/-- The constant template (42_load_store.md R230): the tag is the constant's own, not found by inspection. -/
def loadConst (c : Fx80) (t : BitVec 2) (s : State) : Ended :=
  let r := if s.full then indef else c
  let tg := if s.full then tagSpecial else t
  funnel (fun u => .done (pushCommit r tg u)) (pushCheck s)

/-- A constant of the ROM: its high word and its truncated significand (R231). -/
structure RomConst where
  high : BitVec 16
  lower : BitVec 64
deriving DecidableEq, Repr

/-- The lower or the incremented variant (R231). -/
def RomConst.value (c : RomConst) (incremented : Bool) : Fx80 :=
  ⟨c.high, if incremented then c.lower + 1 else c.lower⟩

/-- The variant that CW.RC selects (R232). -/
def rcIncrements (cw : Word) : Bool := rcOf cw == 0#2 || rcOf cw == 2#2

/-- The variant of log2(10): as the others, but for the parameter L2T_NEAREST_INCREMENTED (R232, R236). -/
def rcIncrementsL2t (s : State) : Bool :=
  if rcOf s.cw = 0#2 then s.params.l2tNearestIncremented else rcIncrements s.cw

/-- pi (R231). -/
def romPi : RomConst := ⟨0x4000#16, 0xC90FDAA22168C234#64⟩
/-- log2(10) (R231). -/
def romL2t : RomConst := ⟨0x4000#16, 0xD49A784BCD1B8AFE#64⟩
/-- log2(e) (R231). -/
def romL2e : RomConst := ⟨0x3FFF#16, 0xB8AA3B295C17F0BB#64⟩
/-- log10(2) (R231). -/
def romLg2 : RomConst := ⟨0x3FFD#16, 0x9A209A84FBCFF798#64⟩
/-- ln(2) (R231). -/
def romLn2 : RomConst := ⟨0x3FFE#16, 0xB17217F7D1CF79AB#64⟩

/-- `FLD1` (42_load_store.md R233). -/
def execFld1 (s : State) : Result :=
  finish .fld1 (loadConst one tagValid s)

/-- `FLDZ` (42_load_store.md R234). -/
def execFldz (s : State) : Result :=
  finish .fldz (loadConst pzero tagZero s)

/-- `FLDPI` (42_load_store.md R235). -/
def execFldpi (s : State) : Result :=
  finish .fldpi (loadConst (romPi.value (rcIncrements s.cw)) tagValid s)

/-- `FLDL2T` (42_load_store.md R236). -/
def execFldl2t (s : State) : Result :=
  finish .fldl2t (loadConst (romL2t.value (rcIncrementsL2t s)) tagValid s)

/-- `FLDL2E` (42_load_store.md R237). -/
def execFldl2e (s : State) : Result :=
  finish .fldl2e (loadConst (romL2e.value (rcIncrements s.cw)) tagValid s)

/-- `FLDLG2` (42_load_store.md R238). -/
def execFldlg2 (s : State) : Result :=
  finish .fldlg2 (loadConst (romLg2.value (rcIncrements s.cw)) tagValid s)

/-- `FLDLN2` (42_load_store.md R239). -/
def execFldln2 (s : State) : Result :=
  finish .fldln2 (loadConst (romLn2.value (rcIncrements s.cw)) tagValid s)

/-! ## Stores -/

/-- `pop()` when the form pops. -/
def popIf (p : Bool) (s : State) : State := if p then pop s else s

/-- The commit of a store: the write, then the pop of a popping form (40_kernel_and_protocol.md R172). -/
def storeCommit (n : Nat) (ea : Addr) (img : Nat) (p : Bool) (s : State) : Ended :=
  (hostWrite n ea img s).andThen fun t => .done (popIf p t)

/-- The commit of an 80-bit store. -/
def storeCommit80 (ea : Addr) (img : Fx80) (p : Bool) (s : State) : Ended :=
  (hostWrite80 ea img s).andThen fun t => .done (popIf p t)

/-- The image of a store from ST(0): the substitute when it is EMPTY, else what the encoder gives (42_load_store.md R240,
R248). -/
def storeImage {α : Type} (absent : α) (enc : Fx80 → State → α × State) (s : State) : α × State :=
  let t := checkOperands [0] s
  if s.isEmpty 0 then (absent, t) else enc (s.st 0) t

/-- `store_real(f32, P)` (R240). -/
def storeReal32 (p : Bool) (m : MemOperand) (s : State) : Ended :=
  memDest m s fun ea =>
    let r := storeImage 0xFFC00000#32 encF32 s
    funnel (storeCommit 4 ea r.1.toNat p) r.2

/-- `store_real(f64, P)` (R240). -/
def storeReal64 (p : Bool) (m : MemOperand) (s : State) : Ended :=
  memDest m s fun ea =>
    let r := storeImage 0xFFF8000000000000#64 encF64 s
    funnel (storeCommit 8 ea r.1.toNat p) r.2

/-- `FSTP m80real` (R245): verbatim. -/
def storeReal80 (m : MemOperand) (s : State) : Ended :=
  memDest m s fun ea =>
    let r := storeImage indef (fun v t => (v, t)) s
    funnel (storeCommit80 ea r.1 true) r.2

/-- `FST ST(i)` and `FSTP ST(i)` (R246, R247): the destination's tag is not examined. -/
def storeSt (i : Slot) (p : Bool) (s : State) : Ended :=
  let r := storeImage indef (fun v t => (v, t)) s
  funnel (fun t => .done (popIf p (writeStack i r.1 t))) r.2

/-- The image of an integer store from ST(0) (R248). -/
def intImage (n : Nat) (s : State) : BitVec n × State := storeImage (intIndefinite n) (encInt n) s

/-- `store_int(n, P)` (R248). -/
def storeInt (w : IntWidth) (p : Bool) (m : MemOperand) (s : State) : Ended :=
  memDest m s fun ea =>
    let r := intImage w.bits s
    funnel (storeCommit w.bytes ea r.1.toNat p) r.2

/-- `FBSTP` (R254). -/
def storeBcd (m : MemOperand) (s : State) : Ended :=
  memDest m s fun ea =>
    let r := storeImage bcdIndefinite bcdImage s
    funnel (storeCommit80 ea r.1 true) r.2

/-- `FST m32real` (42_load_store.md R241). -/
def execFstM32real (m : MemOperand) (s : State) : Result :=
  finish (.fstM32real m) (storeReal32 false m s)

/-- `FSTP m32real` (42_load_store.md R242). -/
def execFstpM32real (m : MemOperand) (s : State) : Result :=
  finish (.fstpM32real m) (storeReal32 true m s)

/-- `FST m64real` (42_load_store.md R243). -/
def execFstM64real (m : MemOperand) (s : State) : Result :=
  finish (.fstM64real m) (storeReal64 false m s)

/-- `FSTP m64real` (42_load_store.md R244). -/
def execFstpM64real (m : MemOperand) (s : State) : Result :=
  finish (.fstpM64real m) (storeReal64 true m s)

/-- `FSTP m80real` (42_load_store.md R245). -/
def execFstpM80real (m : MemOperand) (s : State) : Result :=
  finish (.fstpM80real m) (storeReal80 m s)

/-- `FST ST(i)` (42_load_store.md R246). -/
def execFstSti (i : Slot) (s : State) : Result :=
  finish (.fstSti i) (storeSt i false s)

/-- `FSTP ST(i)` (42_load_store.md R247). -/
def execFstpSti (i : Slot) (s : State) : Result :=
  finish (.fstpSti i) (storeSt i true s)

/-- `FIST m16int` (42_load_store.md R249). -/
def execFistM16int (m : MemOperand) (s : State) : Result :=
  finish (.fistM16int m) (storeInt .w16 false m s)

/-- `FISTP m16int` (42_load_store.md R250). -/
def execFistpM16int (m : MemOperand) (s : State) : Result :=
  finish (.fistpM16int m) (storeInt .w16 true m s)

/-- `FIST m32int` (42_load_store.md R251). -/
def execFistM32int (m : MemOperand) (s : State) : Result :=
  finish (.fistM32int m) (storeInt .w32 false m s)

/-- `FISTP m32int` (42_load_store.md R252). -/
def execFistpM32int (m : MemOperand) (s : State) : Result :=
  finish (.fistpM32int m) (storeInt .w32 true m s)

/-- `FISTP m64int` (42_load_store.md R253). -/
def execFistpM64int (m : MemOperand) (s : State) : Result :=
  finish (.fistpM64int m) (storeInt .w64 true m s)

/-- `FBSTP m80bcd` (42_load_store.md R254). -/
def execFbstp (m : MemOperand) (s : State) : Result :=
  finish (.fbstp m) (storeBcd m s)

end Sys2Proof.Machine
end

