-- ==== Sys2Proof/Machine/Arith.lean ====
section
/-! DEFINITION. The arithmetic family: add, subtract, multiply, divide in their 42 forms (43_arithmetic.md). -/

namespace Sys2Proof.Machine

/-- The six operations of the family (43_arithmetic.md R274). -/
inductive ArithKind
  | add
  | mul
  | sub
  | subr
  | div
  | divr
deriving DecidableEq, Repr

/-- The facade operation of a kind. -/
def ArithKind.op : ArithKind → ArithOp
  | .add => .add
  | .mul => .mul
  | .sub => .sub
  | .subr => .sub
  | .div => .div
  | .divr => .div

/-- Whether the operand pair is swapped: "SUBR swaps operands versus SUB" (R274). -/
def ArithKind.swapped : ArithKind → Bool
  | .subr => true
  | .divr => true
  | _ => false

/-- `precheck(op, x, y)` (R272, R273). -/
def precheck (op : ArithOp) (x y : Fx80) : Bool :=
  x.isSnan || y.isSnan ||
    match op with
    | .add => x.isInf && y.isInf && x.sign != y.sign
    | .sub => x.isInf && y.isInf && x.sign == y.sign
    | .mul => false
    | .div => false

/-- The result of the ordered pair, and the state with its latches and flags (R270). Free under an unsupported operand
(notes/assumptions/9.md) and under CW.PC = 01 (notes/assumptions/8.md). -/
def arithPair (op : ArithOp) (x y : Fx80) (s : State) : Fx80 × State :=
  if x.isUnsupported || y.isUnsupported then freeResult s
  else if precheck op x y then (indef, latch bitIE s)
  else match facade op (pcOf s.cw) s.kmode x y with
    | some r => (r.1, addFx r.2 s)
    | none => freeResult s

/-- The result of a kind on the destination operand `a` and the other operand `b` (R274). -/
def arithResult (k : ArithKind) (a b : Fx80) (s : State) : Fx80 × State :=
  if k.swapped then arithPair k.op b a s else arithPair k.op a b s

/-- The template on a memory operand (R270, R271): the destination is ST(0). -/
def arithMem (k : ArithKind) (f : MemSrc) (m : MemOperand) (s : State) : Ended :=
  memSource f m s fun v bad t =>
    let u := checkOperands [0] t
    let r := if t.isEmpty 0 || bad then (indef, u) else arithResult k (t.st 0) v u
    funnel (fun w => .done (writeStack 0 r.1 w)) r.2

/-- The template on two stack operands (R270): `ST(dst)` is the first of R274's pair and the destination. -/
def arithReg (k : ArithKind) (dst src : Slot) (p : Bool) (s : State) : Ended :=
  let u := checkOperands [dst, src] s
  let r := if s.anyEmpty [dst, src] then (indef, u) else arithResult k (s.st dst) (s.st src) u
  funnel (fun w => .done (popIf p (writeStack dst r.1 w))) r.2

/-- `FADD m32real` (43_arithmetic.md R275). -/
def execFaddM32real (m : MemOperand) (s : State) : Result :=
  finish (.faddM32real m) (arithMem .add .f32 m s)

/-- `FMUL m32real` (43_arithmetic.md R276). -/
def execFmulM32real (m : MemOperand) (s : State) : Result :=
  finish (.fmulM32real m) (arithMem .mul .f32 m s)

/-- `FSUB m32real` (43_arithmetic.md R277). -/
def execFsubM32real (m : MemOperand) (s : State) : Result :=
  finish (.fsubM32real m) (arithMem .sub .f32 m s)

/-- `FSUBR m32real` (43_arithmetic.md R278). -/
def execFsubrM32real (m : MemOperand) (s : State) : Result :=
  finish (.fsubrM32real m) (arithMem .subr .f32 m s)

/-- `FDIV m32real` (43_arithmetic.md R279). -/
def execFdivM32real (m : MemOperand) (s : State) : Result :=
  finish (.fdivM32real m) (arithMem .div .f32 m s)

/-- `FDIVR m32real` (43_arithmetic.md R280). -/
def execFdivrM32real (m : MemOperand) (s : State) : Result :=
  finish (.fdivrM32real m) (arithMem .divr .f32 m s)

/-- `FADD ST,ST(i)` (43_arithmetic.md R299). -/
def execFaddStSti (i : Slot) (s : State) : Result :=
  finish (.faddStSti i) (arithReg .add 0 i false s)

/-- `FMUL ST,ST(i)` (43_arithmetic.md R300). -/
def execFmulStSti (i : Slot) (s : State) : Result :=
  finish (.fmulStSti i) (arithReg .mul 0 i false s)

/-- `FSUB ST,ST(i)` (43_arithmetic.md R301). -/
def execFsubStSti (i : Slot) (s : State) : Result :=
  finish (.fsubStSti i) (arithReg .sub 0 i false s)

/-- `FSUBR ST,ST(i)` (43_arithmetic.md R302). -/
def execFsubrStSti (i : Slot) (s : State) : Result :=
  finish (.fsubrStSti i) (arithReg .subr 0 i false s)

/-- `FDIV ST,ST(i)` (43_arithmetic.md R303). -/
def execFdivStSti (i : Slot) (s : State) : Result :=
  finish (.fdivStSti i) (arithReg .div 0 i false s)

/-- `FDIVR ST,ST(i)` (43_arithmetic.md R304). -/
def execFdivrStSti (i : Slot) (s : State) : Result :=
  finish (.fdivrStSti i) (arithReg .divr 0 i false s)

/-- `FIADD m32int` (43_arithmetic.md R287). -/
def execFiaddM32int (m : MemOperand) (s : State) : Result :=
  finish (.fiaddM32int m) (arithMem .add (.int .w32) m s)

/-- `FIMUL m32int` (43_arithmetic.md R288). -/
def execFimulM32int (m : MemOperand) (s : State) : Result :=
  finish (.fimulM32int m) (arithMem .mul (.int .w32) m s)

/-- `FISUB m32int` (43_arithmetic.md R289). -/
def execFisubM32int (m : MemOperand) (s : State) : Result :=
  finish (.fisubM32int m) (arithMem .sub (.int .w32) m s)

/-- `FISUBR m32int` (43_arithmetic.md R290). -/
def execFisubrM32int (m : MemOperand) (s : State) : Result :=
  finish (.fisubrM32int m) (arithMem .subr (.int .w32) m s)

/-- `FIDIV m32int` (43_arithmetic.md R291). -/
def execFidivM32int (m : MemOperand) (s : State) : Result :=
  finish (.fidivM32int m) (arithMem .div (.int .w32) m s)

/-- `FIDIVR m32int` (43_arithmetic.md R292). -/
def execFidivrM32int (m : MemOperand) (s : State) : Result :=
  finish (.fidivrM32int m) (arithMem .divr (.int .w32) m s)

/-- `FADD m64real` (43_arithmetic.md R281). -/
def execFaddM64real (m : MemOperand) (s : State) : Result :=
  finish (.faddM64real m) (arithMem .add .f64 m s)

/-- `FMUL m64real` (43_arithmetic.md R282). -/
def execFmulM64real (m : MemOperand) (s : State) : Result :=
  finish (.fmulM64real m) (arithMem .mul .f64 m s)

/-- `FSUB m64real` (43_arithmetic.md R283). -/
def execFsubM64real (m : MemOperand) (s : State) : Result :=
  finish (.fsubM64real m) (arithMem .sub .f64 m s)

/-- `FSUBR m64real` (43_arithmetic.md R284). -/
def execFsubrM64real (m : MemOperand) (s : State) : Result :=
  finish (.fsubrM64real m) (arithMem .subr .f64 m s)

/-- `FDIV m64real` (43_arithmetic.md R285). -/
def execFdivM64real (m : MemOperand) (s : State) : Result :=
  finish (.fdivM64real m) (arithMem .div .f64 m s)

/-- `FDIVR m64real` (43_arithmetic.md R286). -/
def execFdivrM64real (m : MemOperand) (s : State) : Result :=
  finish (.fdivrM64real m) (arithMem .divr .f64 m s)

/-- `FADD ST(i),ST` (43_arithmetic.md R305). -/
def execFaddStiSt (i : Slot) (s : State) : Result :=
  finish (.faddStiSt i) (arithReg .add i 0 false s)

/-- `FMUL ST(i),ST` (43_arithmetic.md R306). -/
def execFmulStiSt (i : Slot) (s : State) : Result :=
  finish (.fmulStiSt i) (arithReg .mul i 0 false s)

/-- `FSUBR ST(i),ST` (43_arithmetic.md R307). -/
def execFsubrStiSt (i : Slot) (s : State) : Result :=
  finish (.fsubrStiSt i) (arithReg .subr i 0 false s)

/-- `FSUB ST(i),ST` (43_arithmetic.md R308). -/
def execFsubStiSt (i : Slot) (s : State) : Result :=
  finish (.fsubStiSt i) (arithReg .sub i 0 false s)

/-- `FDIVR ST(i),ST` (43_arithmetic.md R309). -/
def execFdivrStiSt (i : Slot) (s : State) : Result :=
  finish (.fdivrStiSt i) (arithReg .divr i 0 false s)

/-- `FDIV ST(i),ST` (43_arithmetic.md R310). -/
def execFdivStiSt (i : Slot) (s : State) : Result :=
  finish (.fdivStiSt i) (arithReg .div i 0 false s)

/-- `FIADD m16int` (43_arithmetic.md R293). -/
def execFiaddM16int (m : MemOperand) (s : State) : Result :=
  finish (.fiaddM16int m) (arithMem .add (.int .w16) m s)

/-- `FIMUL m16int` (43_arithmetic.md R294). -/
def execFimulM16int (m : MemOperand) (s : State) : Result :=
  finish (.fimulM16int m) (arithMem .mul (.int .w16) m s)

/-- `FISUB m16int` (43_arithmetic.md R295). -/
def execFisubM16int (m : MemOperand) (s : State) : Result :=
  finish (.fisubM16int m) (arithMem .sub (.int .w16) m s)

/-- `FISUBR m16int` (43_arithmetic.md R296). -/
def execFisubrM16int (m : MemOperand) (s : State) : Result :=
  finish (.fisubrM16int m) (arithMem .subr (.int .w16) m s)

/-- `FIDIV m16int` (43_arithmetic.md R297). -/
def execFidivM16int (m : MemOperand) (s : State) : Result :=
  finish (.fidivM16int m) (arithMem .div (.int .w16) m s)

/-- `FIDIVR m16int` (43_arithmetic.md R298). -/
def execFidivrM16int (m : MemOperand) (s : State) : Result :=
  finish (.fidivrM16int m) (arithMem .divr (.int .w16) m s)

/-- `FADDP ST(i),ST` (43_arithmetic.md R311). -/
def execFaddp (i : Slot) (s : State) : Result :=
  finish (.faddp i) (arithReg .add i 0 true s)

/-- `FMULP ST(i),ST` (43_arithmetic.md R312). -/
def execFmulp (i : Slot) (s : State) : Result :=
  finish (.fmulp i) (arithReg .mul i 0 true s)

/-- `FSUBRP ST(i),ST` (43_arithmetic.md R313). -/
def execFsubrp (i : Slot) (s : State) : Result :=
  finish (.fsubrp i) (arithReg .subr i 0 true s)

/-- `FSUBP ST(i),ST` (43_arithmetic.md R314). -/
def execFsubp (i : Slot) (s : State) : Result :=
  finish (.fsubp i) (arithReg .sub i 0 true s)

/-- `FDIVRP ST(i),ST` (43_arithmetic.md R315). -/
def execFdivrp (i : Slot) (s : State) : Result :=
  finish (.fdivrp i) (arithReg .divr i 0 true s)

/-- `FDIVP ST(i),ST` (43_arithmetic.md R316). -/
def execFdivp (i : Slot) (s : State) : Result :=
  finish (.fdivp i) (arithReg .div i 0 true s)

end Sys2Proof.Machine
end

