-- ==== Sys2Proof/Machine/Flags.lean ====
section
/-! DEFINITION. The condition codes and the host flags: the relation of two operands and the truth table of the compares
(45_compare.md R350, R352), the classes of `FXAM` (R385), the quotient codes of `FPREM` (44_misc_arith.md R337), the
conditions of `FCMOVcc` (45_compare.md R390 to R398). -/

namespace Sys2Proof.Machine

/-- The relation of `ST(0)` to the other operand (45_compare.md R350). -/
inductive Rel
  | greater
  | less
  | equal
  | unordered
deriving DecidableEq, Repr

/-- A column of condition codes. -/
structure Codes where
  c3 : Bool
  c2 : Bool
  c0 : Bool
deriving DecidableEq, Repr

/-- The truth table of R350. -/
def Rel.codes : Rel → Codes
  | .greater => ⟨false, false, false⟩
  | .less => ⟨false, false, true⟩
  | .equal => ⟨true, false, false⟩
  | .unordered => ⟨true, true, true⟩

/-- The order of two values that are not NaNs, infinities and signed zeros as R352 has them. -/
def relInt (x y : Int) : Rel := if x < y then .less else if y < x then .greater else .equal

/-- `val(a)` against `val(b)` (R352). -/
def relVal (a b : Val) : Rel :=
  match a, b with
  | .nan _ _, _ => .unordered
  | _, .nan _ _ => .unordered
  | .inf s, .inf t => relInt (if s then -1 else 1) (if t then -1 else 1)
  | .inf s, _ => if s then .less else .greater
  | _, .inf t => if t then .greater else .less
  | .zero _, .zero _ => .equal
  | .zero _, .fin t _ _ => if t then .greater else .less
  | .fin s _ _, .zero _ => if s then .less else .greater
  | .fin s m e, .fin t n g => relInt (signedAt (min e g) s m e) (signedAt (min e g) t n g)

/-- The two kinds of compare (R352). -/
inductive CmpKind
  | ordered
  | unordered
deriving DecidableEq, Repr

/-- Whether `rel(a, b, kind)` latches IE (R352). -/
def cmpInvalid (kind : CmpKind) (a b : Fx80) : Bool :=
  (a.isNan || b.isNan) && (kind == .ordered || a.isSnan || b.isSnan)

/-- Two bits as a relation, for a free one. -/
def relOfBits (b : BitVec 2) : Rel :=
  match b.toNat with
  | 0 => .greater
  | 1 => .less
  | 2 => .equal
  | _ => .unordered

/-- `rel(a, b, kind)` of two present operands (R352); free, with a free `invalid`, when one is an unsupported encoding
(notes/assumptions/9.md). -/
def relOf (kind : CmpKind) (a b : Fx80) (s : State) : Rel × State :=
  if a.isUnsupported || b.isUnsupported then
    let d := drawn 3 s
    (relOfBits (d.extractLsb' 0 2), skipFree (latchIf (d.getLsbD 2) bitIE s))
  else (relVal (unpackExt a) (unpackExt b), latchIf (cmpInvalid kind a b) bitIE s)

/-- C3, C2 and C0 written. -/
def putCodes (c : Codes) (sw : Word) : Word := putBit (putBit (putBit sw bitC3 c.c3) bitC2 c.c2) bitC0 c.c0

/-- The result of a classical compare, with C1 cleared (R351). -/
def writeRelCodes (r : Rel) (s : State) : State := { s with sw := putBit (putCodes r.codes s.sw) bitC1 false }

/-- The result of a flag-writing compare: ZF, PF and CF, and nothing in SW (R350, R351). -/
def writeRelFlags (r : Rel) (s : State) : State :=
  { s with zf := r.codes.c3, pf := r.codes.c2, cf := r.codes.c0 }

/-- The class of a register and its tag as `FXAM` codes it, first match (R385). -/
def xamCodes (empty : Bool) (v : Fx80) : Codes :=
  if empty then ⟨true, false, true⟩
  else if v.isUnsupported then ⟨false, false, false⟩
  else if v.isNan then ⟨false, false, true⟩
  else if v.isInf then ⟨false, true, true⟩
  else if v.isZero then ⟨true, false, false⟩
  else if v.exp = 0#15 then ⟨true, true, false⟩
  else ⟨false, true, false⟩

/-- What `FPREM` does with the codes at commit (44_misc_arith.md R337); `free` is the open case of an unsupported
operand. -/
inductive RemCodes
  | none
  | complete (q : Nat)
  | incomplete
  | free (c : BitVec 4)
deriving DecidableEq, Repr

/-- All four codes from four bits, C0 first. -/
def putCodes4 (c : BitVec 4) (sw : Word) : Word :=
  putBit (putBit (putBit (putBit sw bitC0 (c.getLsbD 0)) bitC1 (c.getLsbD 1)) bitC2 (c.getLsbD 2)) bitC3 (c.getLsbD 3)

/-- Quotient bit 0 in C1, bit 1 in C3, bit 2 in C0, and C2 clear (R337). -/
def putQuotient (q : Nat) (sw : Word) : Word :=
  putBit (putBit (putBit (putBit sw bitC1 (q.testBit 0)) bitC3 (q.testBit 1)) bitC0 (q.testBit 2)) bitC2 false

/-- The codes of `FPREM` written (R337): none, those of a complete step, or C2 alone for an incomplete one. -/
def writeRemCodes (c : RemCodes) (s : State) : State :=
  match c with
  | .none => s
  | .complete q => { s with sw := putQuotient q s.sw }
  | .incomplete => { s with sw := putBit s.sw bitC2 true }
  | .free c => { s with sw := putCodes4 c s.sw }

/-- The conditions of `FCMOVcc` (45_compare.md R391 to R398). -/
inductive Cond
  | b
  | e
  | be
  | u
  | nb
  | ne
  | nbe
  | nu
deriving DecidableEq, Repr

/-- Whether the condition holds of the host flags (R391 to R398). -/
def Cond.holds (c : Cond) (s : State) : Bool :=
  match c with
  | .b => s.cf
  | .e => s.zf
  | .be => s.cf || s.zf
  | .u => s.pf
  | .nb => !s.cf
  | .ne => !s.zf
  | .nbe => !s.cf && !s.zf
  | .nu => !s.pf

end Sys2Proof.Machine
end

