-- ==== Sys2Proof/Machine/Compare.lean ====
section
/-! DEFINITION. Comparisons, FXAM and the conditional moves (45_compare.md). -/

namespace Sys2Proof.Machine

/-- Where a compare writes its result (45_compare.md R351). -/
inductive CmpDest
  | codes
  | flags
deriving DecidableEq, Repr

/-- The result written at its destination (R350, R351). -/
def CmpDest.write (d : CmpDest) (r : Rel) (s : State) : State :=
  match d with
  | .codes => writeRelCodes r s
  | .flags => writeRelFlags r s

/-- `pop()`, `n` times. -/
def popTimes : Nat → State → State
  | 0, s => s
  | n + 1, s => popTimes n (pop s)

/-- The end of a compare (R351): the funnel, the result, the pops. -/
def cmpCommit (d : CmpDest) (npop : Nat) (r : Rel × State) : Ended :=
  funnel (fun u => .done (popTimes npop (d.write r.1 u))) r.2

/-- The template on two stack operands (R351): ST(0) against ST(i). -/
def cmpReg (kind : CmpKind) (d : CmpDest) (npop : Nat) (i : Slot) (s : State) : Ended :=
  let t := checkOperands [0, i] s
  cmpCommit d npop (if s.anyEmpty [0, i] then (.unordered, t) else relOf kind (s.st 0) (s.st i) t)

/-- The template on a memory operand (R351): ordered, to the condition codes. -/
def cmpMem (npop : Nat) (f : MemSrc) (m : MemOperand) (s : State) : Ended :=
  memSource f m s fun v bad t =>
    let u := checkOperands [0] t
    cmpCommit .codes npop (if t.isEmpty 0 || bad then (.unordered, u) else relOf .ordered (t.st 0) v u)

/-- `FTST` (R371): ST(0) against +0. -/
def testTop (s : State) : Ended :=
  let t := checkOperands [0] s
  cmpCommit .codes 0 (if s.isEmpty 0 then (.unordered, t) else relOf .ordered (s.st 0) pzero t)

/-- `FXAM` (R386): the class in C3, C2, C0, the stored sign in C1; no funnel. -/
def examTop (s : State) : Ended :=
  .done { s with sw := putBit (putCodes (xamCodes (s.isEmpty 0) (s.st 0)) s.sw) bitC1 (s.st 0).sign }

/-- The `FCMOVcc` template (R390): with a false condition nothing happens, not even the funnel. -/
def moveIf (c : Cond) (i : Slot) (s : State) : Ended :=
  if c.holds s then
    let v := if s.isEmpty i then indef else s.st i
    funnel (fun t => .done (writeStack 0 v t)) (checkOperands [i] s)
  else .done s

/-- `FCOM m32real` (45_compare.md R353). -/
def execFcomM32real (m : MemOperand) (s : State) : Result :=
  finish (.fcomM32real m) (cmpMem 0 .f32 m s)

/-- `FCOMP m32real` (45_compare.md R354). -/
def execFcompM32real (m : MemOperand) (s : State) : Result :=
  finish (.fcompM32real m) (cmpMem 1 .f32 m s)

/-- `FCOM m64real` (45_compare.md R355). -/
def execFcomM64real (m : MemOperand) (s : State) : Result :=
  finish (.fcomM64real m) (cmpMem 0 .f64 m s)

/-- `FCOMP m64real` (45_compare.md R356). -/
def execFcompM64real (m : MemOperand) (s : State) : Result :=
  finish (.fcompM64real m) (cmpMem 1 .f64 m s)

/-- `FCOM ST(i)` (45_compare.md R357). -/
def execFcomSti (i : Slot) (s : State) : Result :=
  finish (.fcomSti i) (cmpReg .ordered .codes 0 i s)

/-- `FCOMP ST(i)` (45_compare.md R358). -/
def execFcompSti (i : Slot) (s : State) : Result :=
  finish (.fcompSti i) (cmpReg .ordered .codes 1 i s)

/-- `FCOMPP` (45_compare.md R359). -/
def execFcompp (s : State) : Result :=
  finish .fcompp (cmpReg .ordered .codes 2 1 s)

/-- `FUCOM ST(i)` (45_compare.md R360). -/
def execFucom (i : Slot) (s : State) : Result :=
  finish (.fucom i) (cmpReg .unordered .codes 0 i s)

/-- `FUCOMP ST(i)` (45_compare.md R361). -/
def execFucomp (i : Slot) (s : State) : Result :=
  finish (.fucomp i) (cmpReg .unordered .codes 1 i s)

/-- `FUCOMPP` (45_compare.md R362). -/
def execFucompp (s : State) : Result :=
  finish .fucompp (cmpReg .unordered .codes 2 1 s)

/-- `FICOM m16int` (45_compare.md R363). -/
def execFicomM16int (m : MemOperand) (s : State) : Result :=
  finish (.ficomM16int m) (cmpMem 0 (.int .w16) m s)

/-- `FICOMP m16int` (45_compare.md R364). -/
def execFicompM16int (m : MemOperand) (s : State) : Result :=
  finish (.ficompM16int m) (cmpMem 1 (.int .w16) m s)

/-- `FICOM m32int` (45_compare.md R365). -/
def execFicomM32int (m : MemOperand) (s : State) : Result :=
  finish (.ficomM32int m) (cmpMem 0 (.int .w32) m s)

/-- `FICOMP m32int` (45_compare.md R366). -/
def execFicompM32int (m : MemOperand) (s : State) : Result :=
  finish (.ficompM32int m) (cmpMem 1 (.int .w32) m s)

/-- `FCOMI ST,ST(i)` (45_compare.md R367). -/
def execFcomi (i : Slot) (s : State) : Result :=
  finish (.fcomi i) (cmpReg .ordered .flags 0 i s)

/-- `FCOMIP ST,ST(i)` (45_compare.md R368). -/
def execFcomip (i : Slot) (s : State) : Result :=
  finish (.fcomip i) (cmpReg .ordered .flags 1 i s)

/-- `FUCOMI ST,ST(i)` (45_compare.md R369). -/
def execFucomi (i : Slot) (s : State) : Result :=
  finish (.fucomi i) (cmpReg .unordered .flags 0 i s)

/-- `FUCOMIP ST,ST(i)` (45_compare.md R370). -/
def execFucomip (i : Slot) (s : State) : Result :=
  finish (.fucomip i) (cmpReg .unordered .flags 1 i s)

/-- `FTST` (45_compare.md R371). -/
def execFtst (s : State) : Result :=
  finish .ftst (testTop s)

/-- `FXAM` (45_compare.md R386). -/
def execFxam (s : State) : Result :=
  finish .fxam (examTop s)

/-- `FCMOVB ST,ST(i)` (45_compare.md R391). -/
def execFcmovb (i : Slot) (s : State) : Result :=
  finish (.fcmovb i) (moveIf .b i s)

/-- `FCMOVE ST,ST(i)` (45_compare.md R392). -/
def execFcmove (i : Slot) (s : State) : Result :=
  finish (.fcmove i) (moveIf .e i s)

/-- `FCMOVBE ST,ST(i)` (45_compare.md R393). -/
def execFcmovbe (i : Slot) (s : State) : Result :=
  finish (.fcmovbe i) (moveIf .be i s)

/-- `FCMOVU ST,ST(i)` (45_compare.md R394). -/
def execFcmovu (i : Slot) (s : State) : Result :=
  finish (.fcmovu i) (moveIf .u i s)

/-- `FCMOVNB ST,ST(i)` (45_compare.md R395). -/
def execFcmovnb (i : Slot) (s : State) : Result :=
  finish (.fcmovnb i) (moveIf .nb i s)

/-- `FCMOVNE ST,ST(i)` (45_compare.md R396). -/
def execFcmovne (i : Slot) (s : State) : Result :=
  finish (.fcmovne i) (moveIf .ne i s)

/-- `FCMOVNBE ST,ST(i)` (45_compare.md R397). -/
def execFcmovnbe (i : Slot) (s : State) : Result :=
  finish (.fcmovnbe i) (moveIf .nbe i s)

/-- `FCMOVNU ST,ST(i)` (45_compare.md R398). -/
def execFcmovnu (i : Slot) (s : State) : Result :=
  finish (.fcmovnu i) (moveIf .nu i s)

end Sys2Proof.Machine
end

