-- ==== Sys2Proof/Machine/Control.lean ====
section
/-! DEFINITION. The control instructions (47_control.md). All but FXCH skip the funnel (R420). -/

namespace Sys2Proof.Machine

/-- `FLDCW` (47_control.md R421). -/
def loadCw (m : MemOperand) (s : State) : Ended :=
  memWord 2 m s fun w => .done (writeCw (BitVec.ofNat 16 w) s)

/-- A 16-bit word of the block stored: `FSTCW`, `FSTSW m16` (R422, R423). -/
def storeWord (w : Word) (m : MemOperand) (s : State) : Ended :=
  memDest m s fun ea => hostWrite 2 ea w.toNat s

/-- `FCLEX` (R424). -/
def clearExceptions (s : State) : State :=
  { s with sw := s.sw &&& (if s.params.fclexClearsBusy then 0x7F00#16 else 0xFF00#16) }

/-- `FXCH ST(i)` (R430): the tags travel with the values; an EMPTY side contributes INDEF tagged SPECIAL. -/
def exchange (i : Slot) (s : State) : Ended :=
  let va := if s.isEmpty 0 then indef else s.st 0
  let ta := if s.isEmpty 0 then tagSpecial else s.tag 0
  let vb := if s.isEmpty i then indef else s.st i
  let tb := if s.isEmpty i then tagSpecial else s.tag i
  funnel (fun t => .done (setSlot (t.phys i) va ta (setSlot (t.phys 0) vb tb t))) (checkOperands [0, i] s)

/-- `FLDCW m16` (47_control.md R421). -/
def execFldcw (m : MemOperand) (s : State) : Result :=
  finish (.fldcw m) (loadCw m s)

/-- `FSTCW m16` (47_control.md R422). -/
def execFstcw (m : MemOperand) (s : State) : Result :=
  finish (.fstcw m) (storeWord s.cw m s)

/-- `FSTSW m16` (47_control.md R423). -/
def execFstswM16 (m : MemOperand) (s : State) : Result :=
  finish (.fstswM16 m) (storeWord s.sw m s)

/-- `FSTSW AX` (47_control.md R431). -/
def execFstswAx (s : State) : Result :=
  finish .fstswAx (.done { s with ax := s.sw })

/-- `FCLEX` (47_control.md R424). -/
def execFclex (s : State) : Result :=
  finish .fclex (.done (clearExceptions s))

/-- `FINIT` (47_control.md R425). -/
def execFinit (s : State) : Result :=
  finish .finit (.done (initFpu s))

/-- `FNOP` (47_control.md R426). -/
def execFnop (s : State) : Result :=
  finish .fnop (.done s)

/-- `FINCSTP` (47_control.md R427). -/
def execFincstp (s : State) : Result :=
  finish .fincstp (.done (setTop (s.top + 1) s))

/-- `FDECSTP` (47_control.md R428). -/
def execFdecstp (s : State) : Result :=
  finish .fdecstp (.done (setTop (s.top + 7) s))

/-- `FFREE ST(i)` (47_control.md R429). -/
def execFfree (i : Slot) (s : State) : Result :=
  finish (.ffree i) (.done { s with tw := putTag s.tw (s.phys i) tagEmpty })

/-- `FXCH ST(i)` (47_control.md R430). -/
def execFxch (i : Slot) (s : State) : Result :=
  finish (.fxch i) (exchange i s)

end Sys2Proof.Machine
end

