-- ==== Sys2Proof/Machine/Environment.lean ====
section
/-! DEFINITION. Environment and state save and restore (48_environment.md). None of the four runs the funnel. -/

namespace Sys2Proof.Machine

/-- The offset of CW in the environment block (48_environment.md R450). -/
def envCwOffset : Addr := 0

/-- The offset of SW in the environment block: only OPSIZE32 matters (R450). -/
def State.envSwOffset (s : State) : Addr := if s.opsize32 then 4 else 2

/-- The offset of TW in the environment block (R450). -/
def State.envTwOffset (s : State) : Addr := if s.opsize32 then 8 else 4

/-- `ENVSIZE` (R450). -/
def State.envSize (s : State) : Nat := if s.opsize32 then 28 else 14

/-- The three words stored, in this order (R452). -/
def storeEnv (ea : Addr) (s : State) : Ended :=
  ((hostWrite 2 (ea + envCwOffset) s.cw.toNat s).andThen
    (hostWrite 2 (ea + s.envSwOffset) s.sw.toNat)).andThen
      (hostWrite 2 (ea + s.envTwOffset) s.tw.toNat)

/-- The three words installed, each as it is read (R453). -/
def loadEnv (ea : Addr) (s : State) : Ended :=
  hostRead 2 (ea + envCwOffset) s fun c =>
    let s1 := writeCw (BitVec.ofNat 16 c) s
    hostRead 2 (ea + s.envSwOffset) s1 fun w =>
      let s2 := { s1 with sw := BitVec.ofNat 16 w }
      hostRead 2 (ea + s.envTwOffset) s2 fun t => .done { s2 with tw := BitVec.ofNat 16 t }

/-- The masks set after `FSTENV` when the parameter FSTENV_MASKS says so (R452). -/
def maskAll (s : State) : State := if s.params.fstenvMasks then writeCw (s.cw ||| 0x003F#16) s else s

/-- The indices of the stack registers in architectural order. -/
def stackIndices : List Slot := [0, 1, 2, 3, 4, 5, 6, 7]

/-- The address of the image of `ST(i)` (R454). -/
def State.imageAddr (s : State) (ea : Addr) (i : Slot) : Addr := ea + BitVec.ofNat 32 (s.envSize + 10 * i.toNat)

/-- The register images stored, whatever the tags (R455). -/
def saveRegs (ea : Addr) : List Slot → State → Ended
  | [], s => .done s
  | i :: rest, s => (hostWrite80 (s.imageAddr ea i) (s.st i) s).andThen (saveRegs ea rest)

/-- The save image stored, and the re-initialisation when the parameter FSAVE_REINIT says so (R455). -/
def saveState (ea : Addr) (s : State) : Ended :=
  ((storeEnv ea s).andThen (saveRegs ea stackIndices)).andThen fun t =>
    .done (if t.params.fsaveReinit then initFpu t else t)

/-- A register image installed: re-tagged by inspection unless its loaded tag is EMPTY (R456). -/
def installReg (i : Slot) (v : Fx80) (s : State) : State :=
  setSlot (s.phys i) v (if s.isEmpty i then tagEmpty else tagOf v) s

/-- The register images installed, each as it is read (R456). -/
def restoreRegs (ea : Addr) : List Slot → State → Ended
  | [], s => .done s
  | i :: rest, s => hostRead80 (s.imageAddr ea i) s fun v => restoreRegs ea rest (installReg i v s)

/-- The whole image installed (R456). -/
def restoreState (ea : Addr) (s : State) : Ended := (loadEnv ea s).andThen (restoreRegs ea stackIndices)

/-- `FSTENV m14/28byte` (48_environment.md R452). -/
def execFstenv (m : MemOperand) (s : State) : Result :=
  finish (.fstenv m) (memDest m s fun ea => (storeEnv ea s).andThen fun t => .done (maskAll t))

/-- `FLDENV m14/28byte` (48_environment.md R453). -/
def execFldenv (m : MemOperand) (s : State) : Result :=
  finish (.fldenv m) (getEa false m s fun ea => loadEnv ea s)

/-- `FSAVE m94/108byte` (48_environment.md R455). -/
def execFsave (m : MemOperand) (s : State) : Result :=
  finish (.fsave m) (memDest m s fun ea => saveState ea s)

/-- `FRSTOR m94/108byte` (48_environment.md R456). -/
def execFrstor (m : MemOperand) (s : State) : Result :=
  finish (.frstor m) (getEa false m s fun ea => restoreState ea s)

end Sys2Proof.Machine
end

