-- ==== Sys2Proof/Machine/MiscArith.lean ====
section
/-! DEFINITION. Sign, square root, round, scale, extract, remainders (44_misc_arith.md). CW.PC has no effect on any of them. -/

namespace Sys2Proof.Machine

/-- The template of a unary operation on ST(0) (44_misc_arith.md R330). -/
def unary (f : Fx80 → State → Fx80 × State) (s : State) : Ended :=
  let t := checkOperands [0] s
  let r := if s.isEmpty 0 then (indef, t) else f (s.st 0) t
  funnel (fun u => .done (writeStack 0 r.1 u)) r.2

/-- An invalid operation found before the kernel: IE at once, INDEF. -/
def invalidNow (s : State) : Fx80 × State := (indef, latch bitIE s)

/-- A kernel result in the extended format, its flags to FX. -/
def kernelResult (r : Val × KFlags) (s : State) : Fx80 × State := (packExt r.1, addFx r.2 s)

/-- The NaN of two operands (40_kernel_and_protocol.md R151). -/
def nanOf (a b : Fx80) (s : State) : Fx80 :=
  packExt (selectNan .ext s.params.nanSelect (unpackExt a) (unpackExt b))

/-- `FSQRT` of a present operand (R333). -/
def sqrtOf (a : Fx80) (s : State) : Fx80 × State :=
  if a.isUnsupported then freeResult s
  else if a.isSnan then invalidNow s
  else if a.sign && !a.isZero then invalidNow s
  else if a.isDenormal then invalidNow s
  else kernelResult (kSqrt s.kmode (unpackExt a)) s

/-- `FRNDINT` of a present operand (R334). -/
def rndintOf (a : Fx80) (s : State) : Fx80 × State :=
  if a.isUnsupported then freeResult s
  else if a.isSnan then invalidNow s
  else let r := kRint s.rm a
    (r.1, addFx r.2 s)

/-- The bound within which `n` of `FSCALE` is clamped: R335 allows any range that holds -32830 to 32830. -/
def scaleClamp (n : Int) : Int := max (-65536) (min 65536 n)

/-- `FSCALE` of two present operands, first matching line of the table of R335. -/
def scaleOf (a b : Fx80) (s : State) : Fx80 × State :=
  if a.isUnsupported || b.isUnsupported then freeResult s
  else if a.isSnan || b.isSnan then invalidNow s
  else if a.isNan || b.isNan then (nanOf a b s, s)
  else if b.isInf && !b.sign then (if a.isZero then invalidNow s else (pinf.withSign a.sign, s))
  else if b.isInf then (if a.isInf then invalidNow s else (pzero.withSign a.sign, s))
  else match unpackExt a with
    | .fin sg m e => kernelResult (roundF .ext s.rm sg m 1 (e + scaleClamp (integerOf b))) s
    | _ => (a, s)

/-- The template of `FSCALE` (R330, R335). -/
def scaleTop (s : State) : Ended :=
  let t := checkOperands [0, 1] s
  let r := if s.anyEmpty [0, 1] then (indef, t) else scaleOf (s.st 0) (s.st 1) t
  funnel (fun u => .done (writeStack 0 r.1 u)) r.2

/-- The two results of `FXTRACT`, `FPTAN` and `FSINCOS`: one written in place, one pushed. -/
structure PairResult where
  inPlace : Fx80
  pushed : Fx80
  state : State

/-- Both results the same, in a given state. -/
def PairResult.both (v : Fx80) (s : State) : PairResult := ⟨v, v, s⟩

/-- Two free results (notes/assumptions/9.md). -/
def PairResult.free (s : State) : PairResult :=
  let a := freeResult s
  let b := freeResult a.2
  ⟨a.1, b.1, b.2⟩

/-- The end of an instruction with two results (44_misc_arith.md R336, 46_transcendental.md R400): the latches of a
failed push check, which replaces both by INDEF, the funnel, then the write in place and the push. -/
def pairCommit (after : State → State) (r : PairResult) : Ended :=
  let a := if r.state.full then indef else r.inPlace
  let b := if r.state.full then indef else r.pushed
  funnel (fun u => .done (after (pushCommit b (tagOf b) (writeStack 0 a u)))) (pushCheck r.state)

/-- The template of an instruction that replaces ST(0) and pushes, around the function `f` of a present operand: the
source check, the pre-checks and the computation, then the push check, in the order of the pseudocode of 44_misc_arith.md
R336 and 46_transcendental.md R400. On a full stack the latches of the pre-checks and the flags of the computation stand
beside SF, IE and C1, and the results are INDEF. The general order of 40_kernel_and_protocol.md R170 and 60_exceptions.md
R508 has the push check before them (DESIGN CHOICE, notes/assumptions/12.md). -/
def pairTop (after : State → State) (f : Fx80 → State → PairResult) (s : State) : Ended :=
  let t := checkOperands [0] s
  pairCommit after (if s.isEmpty 0 then PairResult.both indef t else f (s.st 0) t)

/-- `FXTRACT` of a present operand (R336): the exponent in place, the significand pushed. -/
def extractOf (a : Fx80) (s : State) : PairResult :=
  if a.isUnsupported then PairResult.free s
  else if a.isSnan then PairResult.both indef (latch bitIE s)
  else if a.isNan then PairResult.both a s
  else if a.isInf then ⟨pinf, a, s⟩
  else if a.isZero then ⟨ninf, pzero, latch bitZE s⟩
  else
    let e : Int := (a.exp.toNat : Int) - 16383
    ⟨kFromInt e, ⟨(a.high &&& 0x8000#16) ||| 0x3FFF#16, a.low⟩, s⟩

/-- The remainder step of `FPREM` on finite non-zero operands `m * 2^e` and `n * 2^g` (R337). -/
def premFinite (sg : Bool) (m : Nat) (e : Int) (n : Nat) (g : Int) : Fx80 × RemCodes :=
  let e0 := min e g
  let x := m * 2 ^ (e - e0).toNat
  let y := n * 2 ^ (g - e0).toNat
  let d := floorLog2 m e - floorLog2 n g
  let res (r : Nat) : Fx80 := packExt (if r = 0 then .zero sg else .fin sg r e0)
  if d < 64 then (res (x % y), .complete (x / y))
  else (res (x % (y * 2 ^ (d - 63).toNat)), .incomplete)

/-- `FPREM` of two present operands (R337). -/
def premOf (a b : Fx80) (s : State) : (Fx80 × RemCodes) × State :=
  if a.isUnsupported || b.isUnsupported then
    let r := freeResult s
    ((r.1, .free (drawn 4 r.2)), skipFree r.2)
  else if a.isSnan || b.isSnan then ((indef, .none), latch bitIE s)
  else if a.isNan || b.isNan then ((nanOf a b s, .none), s)
  else if a.isInf || b.isZero then ((indef, .none), latch bitIE s)
  else if b.isInf || a.isZero then ((a, .complete 0), s)
  else match unpackExt a, unpackExt b with
    | .fin sg m e, .fin _ n g => (premFinite sg m e n g, s)
    | _, _ => ((a, .complete 0), s)

/-- `FPREM` (R337). -/
def premTop (s : State) : Ended :=
  let t := checkOperands [0, 1] s
  let r := if s.anyEmpty [0, 1] then ((indef, .none), t) else premOf (s.st 0) (s.st 1) t
  funnel (fun u => .done (writeRemCodes r.1.2 (writeStack 0 r.1.1 u))) r.2

/-- `FPREM1` of two present operands (R338). -/
def prem1Of (a b : Fx80) (s : State) : Fx80 × State :=
  if a.isUnsupported || b.isUnsupported then freeResult s
  else if a.isSnan || b.isSnan then invalidNow s
  else kernelResult (kRem s.kmode (unpackExt a) (unpackExt b)) s

/-- `FPREM1` (R338): C0 to C3 are free after it (93_implementation_defined.md U2; notes/assumptions/10.md). -/
def prem1Top (s : State) : Ended :=
  let t := checkOperands [0, 1] s
  if s.anyEmpty [0, 1] then funnel (fun u => .done (writeStack 0 indef u)) t
  else
    let r := prem1Of (s.st 0) (s.st 1) t
    funnel (fun u => .done (skipFree (writeRemCodes (.free (drawn 4 u)) (writeStack 0 r.1 u)))) r.2

/-- `FCHS` (44_misc_arith.md R331). -/
def execFchs (s : State) : Result :=
  finish .fchs (unary (fun a t => (a.neg, t)) s)

/-- `FABS` (44_misc_arith.md R332). -/
def execFabs (s : State) : Result :=
  finish .fabs (unary (fun a t => (a.withSign false, t)) s)

/-- `FSQRT` (44_misc_arith.md R333). -/
def execFsqrt (s : State) : Result :=
  finish .fsqrt (unary sqrtOf s)

/-- `FRNDINT` (44_misc_arith.md R334). -/
def execFrndint (s : State) : Result :=
  finish .frndint (unary rndintOf s)

/-- `FSCALE` (44_misc_arith.md R335). -/
def execFscale (s : State) : Result :=
  finish .fscale (scaleTop s)

/-- `FXTRACT` (44_misc_arith.md R336). -/
def execFxtract (s : State) : Result :=
  finish .fxtract (pairTop id extractOf s)

/-- `FPREM` (44_misc_arith.md R337). -/
def execFprem (s : State) : Result :=
  finish .fprem (premTop s)

/-- `FPREM1` (44_misc_arith.md R338). -/
def execFprem1 (s : State) : Result :=
  finish .fprem1 (prem1Top s)

end Sys2Proof.Machine
end

