-- ==== Sys2Proof/Machine/Trans.lean ====
section
/-! DEFINITION. The binary64 functions of the transcendental instructions (46_transcendental.md R401): the special values
the spec fixes, in front of the uninterpreted functions of Config, and the conversions around them (R402). -/

namespace Sys2Proof.Machine

/-- binary64 +0. -/
abbrev d64Zero : BitVec 64 := 0x0000000000000000#64
/-- binary64 1. -/
abbrev d64One : BitVec 64 := 0x3FF0000000000000#64
/-- binary64 -1. -/
abbrev d64MinusOne : BitVec 64 := 0xBFF0000000000000#64
/-- binary64 plus infinity. -/
abbrev d64Inf : BitVec 64 := 0x7FF0000000000000#64
/-- binary64 minus infinity. -/
abbrev d64MinusInf : BitVec 64 := 0xFFF0000000000000#64
/-- A binary64 NaN; which one cannot be seen, since `from_d` replaces it by INDEF (R402). -/
abbrev d64Nan : BitVec 64 := 0x7FF8000000000000#64
/-- pi rounded to binary64. -/
abbrev d64Pi : BitVec 64 := 0x400921FB54442D18#64
/-- pi/2 rounded to binary64. -/
abbrev d64HalfPi : BitVec 64 := 0x3FF921FB54442D18#64
/-- pi/4 rounded to binary64. -/
abbrev d64QuarterPi : BitVec 64 := 0x3FE921FB54442D18#64
/-- 3pi/4 rounded to binary64. -/
abbrev d64ThreeQuarterPi : BitVec 64 := 0x4002D97C7F3321D2#64

/-- A binary64 word with the sign bit set when `s` holds. -/
def d64WithSign (s : Bool) (w : BitVec 64) : BitVec 64 := if s then w ||| 0x8000000000000000#64 else w

/-- `TRANS_2XM1` (R401): from 1024 on, the result is above the binary64 range. -/
def trans2xm1 (x : BitVec 64) : BitVec 64 :=
  if x = d64One then d64One
  else match unpackF64 x with
    | .zero _ => x
    | .inf s => if s then d64MinusOne else d64Inf
    | .fin false m e => if 10 ≤ floorLog2 m e then d64Inf else Config.trans2xm1 x
    | _ => Config.trans2xm1 x

/-- `TRANS_LOG2` (R401): the logarithm of `2^k` is `k` exactly. -/
def transLog2 (x : BitVec 64) : BitVec 64 :=
  match unpackF64 x with
  | .zero _ => d64MinusInf
  | .inf s => if s then d64Nan else d64Inf
  | .fin true _ _ => d64Nan
  | .fin false m e =>
    let k := floorLog2 m e
    if m = 2 ^ m.log2 then (if k = 0 then d64Zero else packF64 (.fin (decide (k < 0)) k.natAbs 0))
    else Config.transLog2 x
  | .nan _ _ => Config.transLog2 x

/-- `TRANS_LOG2P1` (R401). -/
def transLog2p1 (x : BitVec 64) : BitVec 64 :=
  if x = d64One then d64One
  else if x = d64MinusOne then d64MinusInf
  else match unpackF64 x with
    | .zero _ => x
    | .inf s => if s then d64Nan else d64Inf
    | .fin true m e => if 0 ≤ floorLog2 m e then d64Nan else Config.transLog2p1 x
    | _ => Config.transLog2p1 x

/-- The special values that `TRANS_SIN` and `TRANS_TAN` share (R401), around the function `f`. -/
def oddTrig (f : BitVec 64 → BitVec 64) (x : BitVec 64) : BitVec 64 :=
  match unpackF64 x with
  | .zero _ => x
  | .inf _ => d64Nan
  | _ => f x

/-- `TRANS_TAN` (R401). -/
def transTan (x : BitVec 64) : BitVec 64 := oddTrig Config.transTan x

/-- `TRANS_SIN` (R401). -/
def transSin (x : BitVec 64) : BitVec 64 := oddTrig Config.transSin x

/-- `TRANS_COS` (R401). -/
def transCos (x : BitVec 64) : BitVec 64 :=
  match unpackF64 x with
  | .zero _ => d64One
  | .inf _ => d64Nan
  | _ => Config.transCos x

/-- `TRANS_ATAN2(y, x)` (R401). -/
def transAtan2 (y x : BitVec 64) : BitVec 64 :=
  match unpackF64 y, unpackF64 x with
  | .nan _ _, _ => Config.transAtan2 y x
  | _, .nan _ _ => Config.transAtan2 y x
  | .zero s, .zero t => d64WithSign s (if t then d64Pi else d64Zero)
  | .zero s, .fin t _ _ => d64WithSign s (if t then d64Pi else d64Zero)
  | .zero s, .inf t => d64WithSign s (if t then d64Pi else d64Zero)
  | .fin s _ _, .zero _ => d64WithSign s d64HalfPi
  | .fin s _ _, .inf t => d64WithSign s (if t then d64Pi else d64Zero)
  | .inf s, .inf t => d64WithSign s (if t then d64ThreeQuarterPi else d64QuarterPi)
  | .inf s, _ => d64WithSign s d64HalfPi
  | .fin _ _ _, .fin _ _ _ => Config.transAtan2 y x

/-- The product of two binary64 numbers, to nearest even whatever CW.RC, its flags dropped (R402). -/
def mulD (y l : BitVec 64) : BitVec 64 :=
  packF64 (kMul .f64 ⟨.rn, .largerSignificand⟩ (unpackF64 y) (unpackF64 l)).1

/-- `to_d(v)`: the operand narrowed under RM, its flags to FX (R402). -/
def toD (v : Fx80) (s : State) : BitVec 64 × State :=
  let r := kToF64 s.rm v
  (r.1, addFx r.2 s)

/-- `from_d(w)`: a NaN latches IE and gives INDEF, any other value is widened exactly (R402). -/
def fromD (w : BitVec 64) (s : State) : Fx80 × State :=
  if (unpackF64 w).isNan then (indef, latch bitIE s) else (kFromF64 w, s)

end Sys2Proof.Machine
end

