-- ==== Sys2Proof/Machine/Transcendental.lean ====
section
/-! DEFINITION. The transcendental instructions (46_transcendental.md). -/

namespace Sys2Proof.Machine

/-- SW.C2 cleared, at commit (46_transcendental.md R400). -/
def clearC2 (s : State) : State := { s with sw := putBit s.sw bitC2 false }

/-- A function of one present operand (R400, R402). -/
def transOne (f : BitVec 64 → BitVec 64) (a : Fx80) (s : State) : Fx80 × State :=
  if a.isUnsupported then freeResult s
  else if a.isSnan then invalidNow s
  else if a.isNan then (a, s)
  else let d := toD a s
    fromD (f d.1) d.2

/-- A one-operand instruction that writes ST(0) (R400). -/
def transInPlace (f : BitVec 64 → BitVec 64) (after : State → State) (s : State) : Ended :=
  let t := checkOperands [0] s
  let r := if s.isEmpty 0 then (indef, t) else transOne f (s.st 0) t
  funnel (fun u => .done (after (writeStack 0 r.1 u))) r.2

/-- A function of two present operands, `a` = ST(0) and `b` = ST(1), with a domain check on `a` (R400). -/
def transTwo (domain : Fx80 → Bool) (f : BitVec 64 → BitVec 64 → BitVec 64) (a b : Fx80) (s : State) : Fx80 × State :=
  if a.isUnsupported || b.isUnsupported then freeResult s
  else if a.isSnan || b.isSnan then invalidNow s
  else if a.isNan || b.isNan then (nanOf a b s, s)
  else if !domain a then invalidNow s
  else
    let d := toD a s
    let c := toD b d.2
    fromD (f d.1 c.1) c.2

/-- A two-operand instruction: the result replaces ST(1), then the pop (R404). -/
def transPop (domain : Fx80 → Bool) (f : BitVec 64 → BitVec 64 → BitVec 64) (s : State) : Ended :=
  let t := checkOperands [0, 1] s
  let r := if s.anyEmpty [0, 1] then (indef, t) else transTwo domain f (s.st 0) (s.st 1) t
  funnel (fun u => .done (pop (writeStack 1 r.1 u))) r.2

/-- The two results of `FPTAN` of a present operand (R406): what is pushed is INDEF when `to_d(a)` is infinite, and 1.0
for every other operand that is no NaN, whatever `TRANS_TAN` answers. -/
def tanOf (a : Fx80) (s : State) : PairResult :=
  if a.isUnsupported then PairResult.free s
  else if a.isSnan then PairResult.both indef (latch bitIE s)
  else if a.isNan then PairResult.both a s
  else
    let d := toD a s
    let r := fromD (transTan d.1) d.2
    ⟨r.1, if (unpackF64 d.1).isInf then indef else one, r.2⟩

/-- The two results of `FSINCOS` of a present operand, the operand narrowed once (R410). -/
def sincosOf (a : Fx80) (s : State) : PairResult :=
  if a.isUnsupported then PairResult.free s
  else if a.isSnan then PairResult.both indef (latch bitIE s)
  else if a.isNan then PairResult.both a s
  else
    let d := toD a s
    let r := fromD (transSin d.1) d.2
    let c := fromD (transCos d.1) r.2
    ⟨r.1, c.1, c.2⟩

/-- The domain check of `FYL2X` on the extended operand (R404). -/
def logDomain (a : Fx80) : Bool := !(a.sign || a.isZero)

/-- `F2XM1` (46_transcendental.md R403). -/
def execF2xm1 (s : State) : Result :=
  finish .f2xm1 (transInPlace trans2xm1 id s)

/-- `FYL2X` (46_transcendental.md R404). -/
def execFyl2x (s : State) : Result :=
  finish .fyl2x (transPop logDomain (fun x y => mulD y (transLog2 x)) s)

/-- `FYL2XP1` (46_transcendental.md R405). -/
def execFyl2xp1 (s : State) : Result :=
  finish .fyl2xp1 (transPop (fun _ => true) (fun x y => mulD y (transLog2p1 x)) s)

/-- `FPTAN` (46_transcendental.md R406). -/
def execFptan (s : State) : Result :=
  finish .fptan (pairTop clearC2 tanOf s)

/-- `FPATAN` (46_transcendental.md R407). -/
def execFpatan (s : State) : Result :=
  finish .fpatan (transPop (fun _ => true) (fun x y => transAtan2 y x) s)

/-- `FSIN` (46_transcendental.md R408). -/
def execFsin (s : State) : Result :=
  finish .fsin (transInPlace transSin clearC2 s)

/-- `FCOS` (46_transcendental.md R409). -/
def execFcos (s : State) : Result :=
  finish .fcos (transInPlace transCos clearC2 s)

/-- `FSINCOS` (46_transcendental.md R410). -/
def execFsincos (s : State) : Result :=
  finish .fsincos (pairTop clearC2 sincosOf s)

end Sys2Proof.Machine
end

