-- ==== Sys2Proof/Machine/Dispatch.lean ====
section
/-! DEFINITION. exec: one arm per constructor of Instr, each one direct call of its meaning. -/

namespace Sys2Proof.Machine

def exec (i : Instr) (s : State) : Host.Outcome State Fault Refusal :=
  match i with
  | .faddM32real m => Sys2Proof.Machine.execFaddM32real m s
  | .fmulM32real m => Sys2Proof.Machine.execFmulM32real m s
  | .fcomM32real m => Sys2Proof.Machine.execFcomM32real m s
  | .fcompM32real m => Sys2Proof.Machine.execFcompM32real m s
  | .fsubM32real m => Sys2Proof.Machine.execFsubM32real m s
  | .fsubrM32real m => Sys2Proof.Machine.execFsubrM32real m s
  | .fdivM32real m => Sys2Proof.Machine.execFdivM32real m s
  | .fdivrM32real m => Sys2Proof.Machine.execFdivrM32real m s
  | .faddStSti j => Sys2Proof.Machine.execFaddStSti j s
  | .fmulStSti j => Sys2Proof.Machine.execFmulStSti j s
  | .fcomSti j => Sys2Proof.Machine.execFcomSti j s
  | .fcompSti j => Sys2Proof.Machine.execFcompSti j s
  | .fsubStSti j => Sys2Proof.Machine.execFsubStSti j s
  | .fsubrStSti j => Sys2Proof.Machine.execFsubrStSti j s
  | .fdivStSti j => Sys2Proof.Machine.execFdivStSti j s
  | .fdivrStSti j => Sys2Proof.Machine.execFdivrStSti j s
  | .fldM32real m => Sys2Proof.Machine.execFldM32real m s
  | .fstM32real m => Sys2Proof.Machine.execFstM32real m s
  | .fstpM32real m => Sys2Proof.Machine.execFstpM32real m s
  | .fldenv m => Sys2Proof.Machine.execFldenv m s
  | .fldcw m => Sys2Proof.Machine.execFldcw m s
  | .fstenv m => Sys2Proof.Machine.execFstenv m s
  | .fstcw m => Sys2Proof.Machine.execFstcw m s
  | .fldSti j => Sys2Proof.Machine.execFldSti j s
  | .fxch j => Sys2Proof.Machine.execFxch j s
  | .fnop => Sys2Proof.Machine.execFnop s
  | .fchs => Sys2Proof.Machine.execFchs s
  | .fabs => Sys2Proof.Machine.execFabs s
  | .ftst => Sys2Proof.Machine.execFtst s
  | .fxam => Sys2Proof.Machine.execFxam s
  | .fld1 => Sys2Proof.Machine.execFld1 s
  | .fldl2t => Sys2Proof.Machine.execFldl2t s
  | .fldl2e => Sys2Proof.Machine.execFldl2e s
  | .fldpi => Sys2Proof.Machine.execFldpi s
  | .fldlg2 => Sys2Proof.Machine.execFldlg2 s
  | .fldln2 => Sys2Proof.Machine.execFldln2 s
  | .fldz => Sys2Proof.Machine.execFldz s
  | .f2xm1 => Sys2Proof.Machine.execF2xm1 s
  | .fyl2x => Sys2Proof.Machine.execFyl2x s
  | .fptan => Sys2Proof.Machine.execFptan s
  | .fpatan => Sys2Proof.Machine.execFpatan s
  | .fxtract => Sys2Proof.Machine.execFxtract s
  | .fprem1 => Sys2Proof.Machine.execFprem1 s
  | .fdecstp => Sys2Proof.Machine.execFdecstp s
  | .fincstp => Sys2Proof.Machine.execFincstp s
  | .fprem => Sys2Proof.Machine.execFprem s
  | .fyl2xp1 => Sys2Proof.Machine.execFyl2xp1 s
  | .fsqrt => Sys2Proof.Machine.execFsqrt s
  | .fsincos => Sys2Proof.Machine.execFsincos s
  | .frndint => Sys2Proof.Machine.execFrndint s
  | .fscale => Sys2Proof.Machine.execFscale s
  | .fsin => Sys2Proof.Machine.execFsin s
  | .fcos => Sys2Proof.Machine.execFcos s
  | .fiaddM32int m => Sys2Proof.Machine.execFiaddM32int m s
  | .fimulM32int m => Sys2Proof.Machine.execFimulM32int m s
  | .ficomM32int m => Sys2Proof.Machine.execFicomM32int m s
  | .ficompM32int m => Sys2Proof.Machine.execFicompM32int m s
  | .fisubM32int m => Sys2Proof.Machine.execFisubM32int m s
  | .fisubrM32int m => Sys2Proof.Machine.execFisubrM32int m s
  | .fidivM32int m => Sys2Proof.Machine.execFidivM32int m s
  | .fidivrM32int m => Sys2Proof.Machine.execFidivrM32int m s
  | .fcmovb j => Sys2Proof.Machine.execFcmovb j s
  | .fcmove j => Sys2Proof.Machine.execFcmove j s
  | .fcmovbe j => Sys2Proof.Machine.execFcmovbe j s
  | .fcmovu j => Sys2Proof.Machine.execFcmovu j s
  | .fucompp => Sys2Proof.Machine.execFucompp s
  | .fildM32int m => Sys2Proof.Machine.execFildM32int m s
  | .fistM32int m => Sys2Proof.Machine.execFistM32int m s
  | .fistpM32int m => Sys2Proof.Machine.execFistpM32int m s
  | .fldM80real m => Sys2Proof.Machine.execFldM80real m s
  | .fstpM80real m => Sys2Proof.Machine.execFstpM80real m s
  | .fcmovnb j => Sys2Proof.Machine.execFcmovnb j s
  | .fcmovne j => Sys2Proof.Machine.execFcmovne j s
  | .fcmovnbe j => Sys2Proof.Machine.execFcmovnbe j s
  | .fcmovnu j => Sys2Proof.Machine.execFcmovnu j s
  | .fclex => Sys2Proof.Machine.execFclex s
  | .finit => Sys2Proof.Machine.execFinit s
  | .fucomi j => Sys2Proof.Machine.execFucomi j s
  | .fcomi j => Sys2Proof.Machine.execFcomi j s
  | .faddM64real m => Sys2Proof.Machine.execFaddM64real m s
  | .fmulM64real m => Sys2Proof.Machine.execFmulM64real m s
  | .fcomM64real m => Sys2Proof.Machine.execFcomM64real m s
  | .fcompM64real m => Sys2Proof.Machine.execFcompM64real m s
  | .fsubM64real m => Sys2Proof.Machine.execFsubM64real m s
  | .fsubrM64real m => Sys2Proof.Machine.execFsubrM64real m s
  | .fdivM64real m => Sys2Proof.Machine.execFdivM64real m s
  | .fdivrM64real m => Sys2Proof.Machine.execFdivrM64real m s
  | .faddStiSt j => Sys2Proof.Machine.execFaddStiSt j s
  | .fmulStiSt j => Sys2Proof.Machine.execFmulStiSt j s
  | .fsubrStiSt j => Sys2Proof.Machine.execFsubrStiSt j s
  | .fsubStiSt j => Sys2Proof.Machine.execFsubStiSt j s
  | .fdivrStiSt j => Sys2Proof.Machine.execFdivrStiSt j s
  | .fdivStiSt j => Sys2Proof.Machine.execFdivStiSt j s
  | .fldM64real m => Sys2Proof.Machine.execFldM64real m s
  | .fstM64real m => Sys2Proof.Machine.execFstM64real m s
  | .fstpM64real m => Sys2Proof.Machine.execFstpM64real m s
  | .frstor m => Sys2Proof.Machine.execFrstor m s
  | .fsave m => Sys2Proof.Machine.execFsave m s
  | .fstswM16 m => Sys2Proof.Machine.execFstswM16 m s
  | .ffree j => Sys2Proof.Machine.execFfree j s
  | .fstSti j => Sys2Proof.Machine.execFstSti j s
  | .fstpSti j => Sys2Proof.Machine.execFstpSti j s
  | .fucom j => Sys2Proof.Machine.execFucom j s
  | .fucomp j => Sys2Proof.Machine.execFucomp j s
  | .fiaddM16int m => Sys2Proof.Machine.execFiaddM16int m s
  | .fimulM16int m => Sys2Proof.Machine.execFimulM16int m s
  | .ficomM16int m => Sys2Proof.Machine.execFicomM16int m s
  | .ficompM16int m => Sys2Proof.Machine.execFicompM16int m s
  | .fisubM16int m => Sys2Proof.Machine.execFisubM16int m s
  | .fisubrM16int m => Sys2Proof.Machine.execFisubrM16int m s
  | .fidivM16int m => Sys2Proof.Machine.execFidivM16int m s
  | .fidivrM16int m => Sys2Proof.Machine.execFidivrM16int m s
  | .faddp j => Sys2Proof.Machine.execFaddp j s
  | .fmulp j => Sys2Proof.Machine.execFmulp j s
  | .fsubrp j => Sys2Proof.Machine.execFsubrp j s
  | .fsubp j => Sys2Proof.Machine.execFsubp j s
  | .fdivrp j => Sys2Proof.Machine.execFdivrp j s
  | .fdivp j => Sys2Proof.Machine.execFdivp j s
  | .fcompp => Sys2Proof.Machine.execFcompp s
  | .fildM16int m => Sys2Proof.Machine.execFildM16int m s
  | .fistM16int m => Sys2Proof.Machine.execFistM16int m s
  | .fistpM16int m => Sys2Proof.Machine.execFistpM16int m s
  | .fbld m => Sys2Proof.Machine.execFbld m s
  | .fildM64int m => Sys2Proof.Machine.execFildM64int m s
  | .fbstp m => Sys2Proof.Machine.execFbstp m s
  | .fistpM64int m => Sys2Proof.Machine.execFistpM64int m s
  | .fstswAx => Sys2Proof.Machine.execFstswAx s
  | .fucomip j => Sys2Proof.Machine.execFucomip j s
  | .fcomip j => Sys2Proof.Machine.execFcomip j s

end Sys2Proof.Machine
end

