-- ==== Sys2Proof/Machine/Fetch.lean ====
section
/-! DEFINITION. The next call of the host (10_state.md R30, 30_encoding.md R100): the sequence, the position in it, and
what a rejected pair of bytes answers (60_exceptions.md R510). -/

namespace Sys2Proof.Machine

/-- The call at the position, if the sequence has one left. -/
def fetch (s : State) : Option HostCall := s.stream[s.pos]?

/-- The state a call starts in: the position advanced, also for an instruction that will be suppressed (10_state.md R30),
and the outputs of the last call gone. -/
def State.begin (s : State) : State :=
  { s with pos := s.pos + 1, mfRequest := false, hostFault := none, portOut := none }

/-- What a rejected pair of bytes answers: the fatal decode error with the state unchanged (60_exceptions.md R510), or a
refusal for a byte the host never hands to the block (notes/assumptions/16.md). -/
def rejected : DecodeError → Result
  | .fatalDecode g modrm => .fault (.fatalDecode g modrm)
  | .notEscape esc => .refused (.notEscape esc)

/-- The sequence that consists of one instruction, from its start. -/
def placed (x : Located) (s : State) : State := { s with stream := [.insn x], pos := 0 }

end Sys2Proof.Machine
end

