-- ==== Sys2Proof/Machine/Port.lean ====
section
/-! DEFINITION. The exported command table (49_host_command_port.md) and what the host does of itself between calls
(00_scope.md R7; 10_state.md R31, R44; 20_memory.md R78, R82; 70_reset_and_hazards.md R540). Neither reports cycles
(notes/assumptions/15.md). -/

namespace Sys2Proof.Machine

/-- A 16-bit word returned to the caller of a command. -/
def returned {n : Nat} (v : BitVec n) (s : State) : State := { s with portOut := some (v.setWidth 64) }

/-- `fistp(n, rc)` (49_host_command_port.md R480): RM is overridden for its duration and restored on every path. -/
def portFistp (w : IntWidth) (rc : BitVec 2) (s : State) : State :=
  let r := intImage w.bits { s with rm := rcTable rc }
  { (funnel (fun t => .done (pop (returned r.1 t))) r.2).state with rm := s.rm }

/-- One command (R472 to R480). A host-level fault inside `fsave` or `frstor` leaves what R79 of 20_memory.md says. -/
def portStep (c : PortCmd) (s : State) : State :=
  match c with
  | .fldcw v => writeCw v s
  | .wait => s
  | .fninit => initFpu s
  | .fstcw => returned s.cw s
  | .fstsw => returned s.sw s
  | .frndint => (unary rndintOf s).state
  | .fclex => clearExceptions s
  | .fsave ea => (saveState ea s).state
  | .frstor ea => (restoreState ea s).state
  | .fistp w rc => portFistp w rc s

/-- One act of the host. -/
def hostStep (e : HostEvent) (s : State) : State :=
  match e with
  | .reset => resetFpu s
  | .inputs h p o => { s with honorsMf := h, prot := p, opsize32 := o }
  | .trap r => { s with trapReturns := r }
  | .flags z p c => { s with zf := z, pf := p, cf := c }
  | .ax v => { s with ax := v }
  | .store a b => { s with mem := s.mem.write a b }
  | .guards gs => { s with guards := gs }

end Sys2Proof.Machine
end

