-- ==== Sys2Proof/Machine/Step.lean ====
section
/-! DEFINITION. The step: one call of the host (10_state.md R30). -/

namespace Sys2Proof.Machine

/-- One step. With no call left the state stays as it is (notes/assumptions/1.md). -/
def step (s : State) : Host.Outcome State Fault Refusal :=
  match fetch s with
  | none => .next s
  | some (.insn x) =>
    match decode x with
    | .instr i => exec i s.begin
    | .reject e => rejected e
  | some (.port c) => .next (portStep c s.begin)
  | some (.event e) => .next (hostStep e s.begin)

/-- The state whose next step fetches the instruction of a word of the opcode table. -/
def State.withFetchWord (s : State) (nbits w : Nat) : State := placed (locateWord nbits w) s

end Sys2Proof.Machine
end

