-- ==== Sys2Proof/Safety.lean ====
section
/-! DEFINITION. The terms of the claims: what a run must not reach, the invariants of the machine, and the outcome of a
handler written as the words of SW it leaves (40_kernel_and_protocol.md R165, R170, R172). -/

namespace Sys2Proof.Machine

/-! ## Stops -/

/-- The machine goes on: no fatal decode error and no byte that is none of the block's (60_exceptions.md R510). -/
def State.goesOn (s : State) : Prop := ∃ t, step s = .next t

/-! ## Invariants -/

/-- The kernel between instructions: FX is empty and RM is what CW.RC says (10_state.md R41, R42). -/
def State.kernelIdle (s : State) : Prop := s.fx = KFlags.empty ∧ s.rm = rcTable (rcOf s.cw)

/-- Every tag that is not EMPTY is the tag of the slot's value (10_state.md R24, R46 invariant 2). -/
def State.tagsAgree (s : State) : Prop :=
  ∀ p : Slot, tagOfSlot s.tw p = tagEmpty ∨ tagOfSlot s.tw p = tagOf (s.reg p)

/-- The invariant of the machine that every step keeps: canonical memory, an idle kernel. -/
def State.Inv (s : State) : Prop := s.mem.wf = true ∧ s.kernelIdle

/-! ## The status word after an event, in masks -/

/-- The latches that kernel flags set (R165): IE 0x01, ZE 0x04, OE 0x08, UE 0x10, PE 0x20. -/
def latchMask (f : KFlags) : Word :=
  (if f.invalid then 0x0001#16 else 0#16) ||| (if f.divbyzero then 0x0004#16 else 0#16) |||
    (if f.overflow then 0x0008#16 else 0#16) ||| (if f.underflow then 0x0010#16 else 0#16) |||
    (if f.inexact then 0x0020#16 else 0#16)

/-- SW after a stack underflow: SF and IE set, C1 clear (R158). -/
def underflowed (sw : Word) : Word := (sw ||| 0x0041#16) &&& 0xFDFF#16

/-- SW after a stack overflow: SF, IE and C1 set (R159). -/
def overflowed (sw : Word) : Word := sw ||| 0x0241#16

/-- SW after IE is latched. -/
def invalidated (sw : Word) : Word := sw ||| 0x0001#16

/-! ## The outcome of a handler -/

/-- The state after the cycle report of instruction `i` (R175). -/
def charged (i : Instr) (s : State) : State := { s with cycles := s.cycles + s.params.cycles.getD i.row 0 }

/-- A failed funnel (R165, R172; 60_exceptions.md R509): the latches in `sw` stay, ES is set, the math fault is requested
if the host honours it, and nothing else has changed. -/
def suppressed (s : State) (sw : Word) : State :=
  { s with sw := sw ||| 0x0080#16, mfRequest := s.mfRequest || s.honorsMf }

/-- The state after the cycle report of a handler whose funnel has failed: lost where the host honours the math fault and
its `i386_trap` does not return (70_reset_and_hazards.md R553, R556). -/
def afterTrap (i : Instr) (s : State) : State := if s.honorsMf = true ∧ s.trapReturns = false then s else charged i s

/-- The outcome of a funneled instruction `i` on `s` whose checks and computation leave SW as `sw`: with nothing pending
it completes as `commit` says of the status word with ES clear; with an unmasked exception pending it is suppressed. -/
def settles (i : Instr) (s : State) (sw : Word) (commit : Word → State) : Prop :=
  (pendingOf s.cw sw = 0#6 → exec i s = .next (charged i (commit (sw &&& 0xFF7F#16)))) ∧
  (pendingOf s.cw sw ≠ 0#6 → exec i s = .next (afterTrap i (suppressed s sw)))

/-! ## The host's side of a memory operand -/

/-- The host lets `GetEA` and the reads of `n` bytes from the operand through. -/
def State.readable (s : State) (m : MemOperand) (n : Nat) : Prop :=
  s.guarded (.getEa false) m.ea 1 = false ∧ s.guarded .read m.ea n = false

/-- The host lets `GetEA` and the two reads of an 80-bit operand through. -/
def State.readable80 (s : State) (m : MemOperand) : Prop :=
  s.guarded (.getEa false) m.ea 1 = false ∧ s.guarded .read m.ea 8 = false ∧ s.guarded .read (m.ea + 8) 2 = false

/-- The host lets `GetEA` and the write of `n` bytes through. -/
def State.writable (s : State) (m : MemOperand) (n : Nat) : Prop :=
  s.guarded (.getEa true) m.ea 1 = false ∧ s.guarded .write m.ea n = false

/-- The host lets `GetEA` and the two writes of an 80-bit operand through. -/
def State.writable80 (s : State) (m : MemOperand) : Prop :=
  s.guarded (.getEa true) m.ea 1 = false ∧ s.guarded .write m.ea 8 = false ∧ s.guarded .write (m.ea + 8) 2 = false

/-- The 80-bit item at an address (20_memory.md R75). -/
def Memory.read80 (mem : Memory) (a : Addr) : Fx80 :=
  ⟨BitVec.ofNat 16 (mem.readLE 2 (a + 8)), BitVec.ofNat 64 (mem.readLE 8 a)⟩

/-- Memory after an 80-bit item is stored (20_memory.md R75). -/
def Memory.write80 (mem : Memory) (a : Addr) (v : Fx80) : Memory :=
  (mem.writeLE 8 a v.low.toNat).writeLE 2 (a + 8) v.high.toNat

/-! ## Refused accesses -/

/-- The address of the image of ST(i) in the save area at `ea` (48_environment.md R454). -/
def imageAt (opsize32 : Bool) (ea : Addr) (i : Slot) : Addr :=
  ea + BitVec.ofNat 32 ((if opsize32 then 28 else 14) + 10 * i.toNat)

/-- Of the accesses of one kind to the save area at `ea`, in the order of 48_environment.md R455 and R456, the host ends
the one at `a`, which is to the first or the second part of the image of ST(j), and none before it. -/
def State.endsAtImage (s : State) (acc : Access) (ea : Addr) (j : Slot) (a : Addr) : Prop :=
  let d : Addr := if s.opsize32 then 4 else 2
  let image (k : Slot) := imageAt s.opsize32 ea k
  s.guarded acc ea 2 = false ∧ s.guarded acc (ea + d) 2 = false ∧ s.guarded acc (ea + 2 * d) 2 = false ∧
  (∀ k : Slot, k < j → s.guarded acc (image k) 8 = false ∧ s.guarded acc (image k + 8) 2 = false) ∧
  ((a = image j ∧ s.guarded acc a 8 = true) ∨
    (a = image j + 8 ∧ s.guarded acc (image j) 8 = false ∧ s.guarded acc a 2 = true))

/-! ## The rows of one shape -/

/-- The loads from memory that convert (42_load_store.md R221, R222, R225 to R227). -/
def loadRows : List ((MemOperand → Instr) × MemSrc) :=
  [(.fldM32real, .f32), (.fldM64real, .f64), (.fildM16int, .int .w16), (.fildM32int, .int .w32),
    (.fildM64int, .int .w64)]

/-- The constants of R231 with their tags, in the variant that RC selects (R232), `l2t` for log2(10) under nearest. -/
def constRows (rc : BitVec 2) (l2t : Bool) : List (Instr × Fx80 × BitVec 2) :=
  let up := rc = 0#2 ∨ rc = 2#2
  [(.fld1, ⟨0x3FFF, 0x8000000000000000⟩, tagValid),
    (.fldz, ⟨0x0000, 0x0000000000000000⟩, tagZero),
    (.fldpi, ⟨0x4000, if up then 0xC90FDAA22168C235 else 0xC90FDAA22168C234⟩, tagValid),
    (.fldl2t, ⟨0x4000, if rc = 2#2 ∨ (rc = 0#2 ∧ l2t) then 0xD49A784BCD1B8AFF else 0xD49A784BCD1B8AFE⟩, tagValid),
    (.fldl2e, ⟨0x3FFF, if up then 0xB8AA3B295C17F0BC else 0xB8AA3B295C17F0BB⟩, tagValid),
    (.fldlg2, ⟨0x3FFD, if up then 0x9A209A84FBCFF799 else 0x9A209A84FBCFF798⟩, tagValid),
    (.fldln2, ⟨0x3FFE, if up then 0xB17217F7D1CF79AC else 0xB17217F7D1CF79AB⟩, tagValid)]

/-- The integer stores and whether they pop (R249 to R253). -/
def intStoreRows : List ((MemOperand → Instr) × IntWidth × Bool) :=
  [(.fistM16int, .w16, false), (.fistpM16int, .w16, true), (.fistM32int, .w32, false), (.fistpM32int, .w32, true),
    (.fistpM64int, .w64, true)]

/-- The arithmetic rows with a memory operand (43_arithmetic.md R275 to R298). -/
def arithMemRows : List ((MemOperand → Instr) × ArithKind × MemSrc) :=
  [(.faddM32real, .add, .f32), (.fmulM32real, .mul, .f32), (.fsubM32real, .sub, .f32),
    (.fsubrM32real, .subr, .f32), (.fdivM32real, .div, .f32), (.fdivrM32real, .divr, .f32),
    (.fiaddM32int, .add, .int .w32), (.fimulM32int, .mul, .int .w32), (.fisubM32int, .sub, .int .w32),
    (.fisubrM32int, .subr, .int .w32), (.fidivM32int, .div, .int .w32), (.fidivrM32int, .divr, .int .w32),
    (.faddM64real, .add, .f64), (.fmulM64real, .mul, .f64), (.fsubM64real, .sub, .f64),
    (.fsubrM64real, .subr, .f64), (.fdivM64real, .div, .f64), (.fdivrM64real, .divr, .f64),
    (.fiaddM16int, .add, .int .w16), (.fimulM16int, .mul, .int .w16), (.fisubM16int, .sub, .int .w16),
    (.fisubrM16int, .subr, .int .w16), (.fidivM16int, .div, .int .w16), (.fidivrM16int, .divr, .int .w16)]

/-- The three register shapes of the arithmetic family: on ST(0), on ST(i), on ST(i) with a pop (R274). -/
inductive ArithShape
  | onTop
  | onSti
  | popping
deriving DecidableEq, Repr

/-- The destination of a shape with operand `i` (R274). -/
def ArithShape.dst (h : ArithShape) (i : Slot) : Slot := if h = .onTop then 0 else i

/-- The other operand of a shape with operand `i`. -/
def ArithShape.src (h : ArithShape) (i : Slot) : Slot := if h = .onTop then i else 0

/-- The arithmetic rows on two stack operands (R299 to R316). -/
def arithRegRows : List ((Slot → Instr) × ArithKind × ArithShape) :=
  [(.faddStSti, .add, .onTop), (.fmulStSti, .mul, .onTop), (.fsubStSti, .sub, .onTop), (.fsubrStSti, .subr, .onTop),
    (.fdivStSti, .div, .onTop), (.fdivrStSti, .divr, .onTop), (.faddStiSt, .add, .onSti), (.fmulStiSt, .mul, .onSti),
    (.fsubrStiSt, .subr, .onSti), (.fsubStiSt, .sub, .onSti), (.fdivrStiSt, .divr, .onSti), (.fdivStiSt, .div, .onSti),
    (.faddp, .add, .popping), (.fmulp, .mul, .popping), (.fsubrp, .subr, .popping), (.fsubp, .sub, .popping),
    (.fdivrp, .divr, .popping), (.fdivp, .div, .popping)]

/-- The compares with a memory operand and the number of their pops (45_compare.md R353 to R356, R363 to R366). -/
def cmpMemRows : List ((MemOperand → Instr) × MemSrc × Nat) :=
  [(.fcomM32real, .f32, 0), (.fcompM32real, .f32, 1), (.fcomM64real, .f64, 0), (.fcompM64real, .f64, 1),
    (.ficomM16int, .int .w16, 0), (.ficompM16int, .int .w16, 1), (.ficomM32int, .int .w32, 0),
    (.ficompM32int, .int .w32, 1)]

/-- The compares of ST(0) with ST(i) to the condition codes, with their kind and pops; the two that pop twice compare
with ST(1) (R357 to R362). -/
def cmpRegRows (i : Slot) : List (Instr × CmpKind × Slot × Nat) :=
  [(.fcomSti i, .ordered, i, 0), (.fcompSti i, .ordered, i, 1), (.fcompp, .ordered, 1, 2), (.fucom i, .unordered, i, 0),
    (.fucomp i, .unordered, i, 1), (.fucompp, .unordered, 1, 2)]

/-- The compares to the host flags, with their kind and whether they pop (R367 to R370). -/
def cmpFlagRows (i : Slot) : List (Instr × CmpKind × Bool) :=
  [(.fcomi i, .ordered, false), (.fcomip i, .ordered, true), (.fucomi i, .unordered, false),
    (.fucomip i, .unordered, true)]

/-- The conditional moves with their conditions on CF, ZF and PF (R391 to R398). -/
def cmovRows (i : Slot) (cf zf pf : Bool) : List (Instr × Bool) :=
  [(.fcmovb i, cf), (.fcmove i, zf), (.fcmovbe i, cf || zf), (.fcmovu i, pf), (.fcmovnb i, !cf), (.fcmovne i, !zf),
    (.fcmovnbe i, !cf && !zf), (.fcmovnu i, !pf)]

/-! ## Results and the status words they leave -/

/-- The value of an image in memory (40_kernel_and_protocol.md R153, R154; 41_codecs.md R191, R192, R197). -/
def MemSrc.value (f : MemSrc) (w : Nat) : Fx80 :=
  match f with
  | .f32 => kFromF32 (BitVec.ofNat 32 w)
  | .f64 => kFromF64 (BitVec.ofNat 64 w)
  | .int n => kFromInt (BitVec.ofNat n.bits w).toInt

/-- The image is a signaling NaN: all exponent bits, the quiet bit clear, another fraction bit set (41_codecs.md R191,
R192). -/
def MemSrc.signals (f : MemSrc) (w : Nat) : Bool :=
  match f with
  | .f32 => decide (w / 2 ^ 23 % 2 ^ 8 = 0xFF ∧ w / 2 ^ 22 % 2 = 0 ∧ w % 2 ^ 22 ≠ 0)
  | .f64 => decide (w / 2 ^ 52 % 2 ^ 11 = 0x7FF ∧ w / 2 ^ 51 % 2 = 0 ∧ w % 2 ^ 51 ≠ 0)
  | .int _ => false

/-- The image is a denormal: no exponent bit and a fraction (41_codecs.md R193). -/
def MemSrc.tiny (f : MemSrc) (w : Nat) : Bool :=
  match f with
  | .f32 => decide (w / 2 ^ 23 % 2 ^ 8 = 0 ∧ w % 2 ^ 23 ≠ 0)
  | .f64 => decide (w / 2 ^ 52 % 2 ^ 11 = 0 ∧ w % 2 ^ 52 ≠ 0)
  | .int _ => false

/-- The result of the arithmetic family on the ordered pair, and SW with the latches, with a supported pair and a PC other
than 01 (43_arithmetic.md R270): the pre-checks of R272 and R273, then the facade of 40_kernel_and_protocol.md R156. PC
selects the format, 00 binary32 and 10 binary64, in which both operands are narrowed before the operation; the flags of
the two narrowings and of the operation accumulate. -/
def arithOut (k : ArithKind) (a b : Fx80) (s : State) (sw : Word) : Fx80 × Word :=
  let x := if k = .subr ∨ k = .divr then b else a
  let y := if k = .subr ∨ k = .divr then a else b
  let op := match k with
    | .add => kAdd
    | .sub => kSub
    | .subr => kSub
    | .mul => kMul
    | .div => kDiv
    | .divr => kDiv
  let within (f : Fmt) : Fx80 × Word :=
    let p := narrow f s.rm x
    let q := narrow f s.rm y
    let r := op f s.kmode p.1 q.1
    (widen f r.1, sw ||| latchMask p.2 ||| latchMask q.2 ||| latchMask r.2)
  if x.isSnan ∨ y.isSnan ∨ (x.isInf ∧ y.isInf ∧
      ((k = .add ∧ x.sign ≠ y.sign) ∨ ((k = .sub ∨ k = .subr) ∧ x.sign = y.sign))) then (indef, invalidated sw)
  else if s.cw.extractLsb' 8 2 = 0#2 then within .f32
  else if s.cw.extractLsb' 8 2 = 2#2 then within .f64
  else
    let r := op .ext s.kmode (unpackExt x) (unpackExt y)
    (packExt r.1, sw ||| latchMask r.2)

/-- The image of an integer store from ST(0) and SW with the latches (41_codecs.md R198, 42_load_store.md R248). -/
def intOut (n : Nat) (s : State) : BitVec n × Word :=
  let v := s.st 0
  if s.isEmpty 0 then (BitVec.ofNat n (2 ^ (n - 1)), underflowed s.sw)
  else if v.isNan ∨ v.isInf then (BitVec.ofNat n (2 ^ (n - 1)), invalidated s.sw)
  else
    let r := kRint s.rm v
    let k := integerOf r.1
    if -(2 ^ (n - 1) : Int) ≤ k ∧ k ≤ (2 ^ (n - 1) : Int) - 1 then (BitVec.ofInt n k, s.sw ||| latchMask r.2)
    else (BitVec.ofNat n (2 ^ (n - 1)), invalidated (s.sw ||| latchMask r.2))

/-- The image of `FBSTP` and SW with the latches (42_load_store.md R254). -/
def bcdOut (s : State) : Fx80 × Word :=
  let v := s.st 0
  if s.isEmpty 0 then (bcdIndefinite, underflowed s.sw)
  else if v.isNan ∨ v.isInf then (bcdIndefinite, invalidated s.sw)
  else
    let r := kRint .rz v
    let n := (integerOf r.1).natAbs
    if n < 10 ^ 18 then (encBcd v.sign n, s.sw ||| latchMask r.2)
    else (bcdIndefinite, invalidated (s.sw ||| latchMask r.2))

/-- The image of a binary32 store and SW with the latches (41_codecs.md R194, 42_load_store.md R240). -/
def real32Out (s : State) : BitVec 32 × Word :=
  if s.isEmpty 0 then (0xFFC00000#32, underflowed s.sw)
  else if (s.st 0).isSnan then (0xFFC00000#32, invalidated s.sw)
  else ((kToF32 s.rm (s.st 0)).1, s.sw ||| latchMask (kToF32 s.rm (s.st 0)).2)

/-- The image of a binary64 store and SW with the latches (41_codecs.md R195, 42_load_store.md R240). -/
def real64Out (s : State) : BitVec 64 × Word :=
  if s.isEmpty 0 then (0xFFF8000000000000#64, underflowed s.sw)
  else if (s.st 0).isSnan then (0xFFF8000000000000#64, invalidated s.sw)
  else ((kToF64 s.rm (s.st 0)).1, s.sw ||| latchMask (kToF64 s.rm (s.st 0)).2)

/-- ST(0) popped, with the rest of the status word as given (R162, R172). -/
def poppedIf (p : Bool) (sw : Word) (s : State) : State :=
  if p then { s with sw := putTop sw (s.top + 1), tw := putTag s.tw s.top tagEmpty } else { s with sw := sw }

/-- The top popped `n` times, with the rest of the status word as given (R162, R172). -/
def poppedTimes : Nat → Word → State → State
  | 0, sw, s => { s with sw := sw }
  | n + 1, sw, s => poppedTimes n (putTop sw (topOf sw + 1)) { s with tw := putTag s.tw (topOf sw) tagEmpty }

/-- A value pushed with its tag (R161). -/
def pushed (v : Fx80) (t : BitVec 2) (sw : Word) (s : State) : State :=
  { s with sw := putTop sw (s.top + 7), regs := s.regs.set (s.top + 7).toNat v, tw := putTag s.tw (s.top + 7) t }

/-- ST(i) written, its tag by inspection (R163). -/
def written (i : Slot) (v : Fx80) (sw : Word) (s : State) : State :=
  { s with sw := sw, regs := s.regs.set (s.top + i).toNat v, tw := putTag s.tw (s.top + i) (tagOf v) }

/-- SW with the result of a classical compare: C3, C2, C0 from the row of R350, C1 clear (R351). -/
def codesWord (r : Rel) (sw : Word) : Word :=
  (sw &&& 0xB8FF#16) ||| (match r with
    | .greater => 0x0000#16
    | .less => 0x0100#16
    | .equal => 0x4000#16
    | .unordered => 0x4500#16)

/-- The relation of two present operands and SW with the IE it latches (R352). -/
def relOut (kind : CmpKind) (a b : Fx80) (sw : Word) : Rel × Word :=
  if a.isNan ∨ b.isNan then
    (.unordered, if kind = .ordered ∨ a.isSnan ∨ b.isSnan then invalidated sw else sw)
  else (relVal (unpackExt a) (unpackExt b), sw)

/-- The result of a one-operand function and SW with the latches, of a supported operand (46_transcendental.md R400,
R402). -/
def transOut (f : BitVec 64 → BitVec 64) (a : Fx80) (s : State) : Fx80 × Word :=
  if a.isSnan then (indef, invalidated s.sw)
  else if a.isNan then (a, s.sw)
  else
    let d := kToF64 s.rm a
    if (unpackF64 (f d.1)).isNan then (indef, invalidated (s.sw ||| latchMask d.2))
    else (kFromF64 (f d.1), s.sw ||| latchMask d.2)

/-- The result of a two-operand function and SW with the latches, of supported operands (R400, R402). -/
def transOut2 (f : BitVec 64 → BitVec 64 → BitVec 64) (a b : Fx80) (s : State) : Fx80 × Word :=
  if a.isSnan ∨ b.isSnan then (indef, invalidated s.sw)
  else if a.isNan ∨ b.isNan then
    (packExt (selectNan .ext s.params.nanSelect (unpackExt a) (unpackExt b)), s.sw)
  else
    let x := kToF64 s.rm a
    let y := kToF64 s.rm b
    let sw := s.sw ||| latchMask x.2 ||| latchMask y.2
    if (unpackF64 (f x.1 y.1)).isNan then (indef, invalidated sw) else (kFromF64 (f x.1 y.1), sw)

/-! ## The real numbers behind the kernel -/

/-- `n` is `rint_dir(rm, s, t)` of a non-negative real `t` (40_kernel_and_protocol.md R139). -/
def IsRint (rm : Rm) (s : Bool) (t : ℝ) (n : ℤ) : Prop :=
  match rm, s with
  | .rn, _ => |t - n| ≤ 1 / 2 ∧ (|t - n| = 1 / 2 → Even n)
  | .rz, _ => (n : ℝ) ≤ t ∧ t < n + 1
  | .rd, false => (n : ℝ) ≤ t ∧ t < n + 1
  | .rd, true => (n : ℝ) - 1 < t ∧ t ≤ n
  | .ru, false => (n : ℝ) - 1 < t ∧ t ≤ n
  | .ru, true => (n : ℝ) ≤ t ∧ t < n + 1

/-- The value is the finite number or zero of sign `s` and magnitude `x`. -/
def Val.IsMagnitude (v : Val) (s : Bool) (x : ℝ) : Prop :=
  match v with
  | .zero t => t = s ∧ x = 0
  | .fin t m e => t = s ∧ m ≠ 0 ∧ x = m * (2 : ℝ) ^ e
  | .inf _ => False
  | .nan _ _ => False

/-- `r` is `round_F(rm, (-1)^s * m)` for a real `m > 0`, with its flags (40_kernel_and_protocol.md R140). -/
def IsRounded (f : Fmt) (rm : Rm) (s : Bool) (m : ℝ) (r : Val × KFlags) : Prop :=
  ∃ e u y : ℤ, (2 : ℝ) ^ e ≤ m ∧ m < (2 : ℝ) ^ (e + 1) ∧
    IsRint rm s (m / (2 : ℝ) ^ (e - f.p + 1)) u ∧
    IsRint rm s (m / (2 : ℝ) ^ (max e f.emin - f.p + 1)) y ∧
    r.2.invalid = false ∧ r.2.divbyzero = false ∧
    if (2 : ℝ) ^ (f.emax + 1) ≤ y * (2 : ℝ) ^ (max e f.emin - f.p + 1) then
      r.2.overflow = true ∧ r.2.underflow = false ∧ r.2.inexact = true ∧
      (if rm = .rn ∨ (rm = .ru ∧ s = false) ∨ (rm = .rd ∧ s = true) then r.1 = .inf s
        else r.1.IsMagnitude s ((2 - (2 : ℝ) ^ (1 - f.p : ℤ)) * (2 : ℝ) ^ f.emax))
    else
      r.1.IsMagnitude s (y * (2 : ℝ) ^ (max e f.emin - f.p + 1)) ∧ r.2.overflow = false ∧
      (r.2.inexact = true ↔ y * (2 : ℝ) ^ (max e f.emin - f.p + 1) ≠ m) ∧
      (r.2.underflow = true ↔ r.2.inexact = true ∧ u * (2 : ℝ) ^ (e - f.p + 1) < (2 : ℝ) ^ f.emin)

/-- `|val(v)|` of a finite value is `x` (40_kernel_and_protocol.md R132). -/
def fxIsAbs (v : Fx80) (x : ℝ) : Prop :=
  x = v.low.toNat * (2 : ℝ) ^ ((max v.exp.toNat 1 : Nat) - 16446 : ℤ)

/-- `val(v)` of a finite value is `x`, with its sign (R132). -/
def fxIsReal (v : Fx80) (x : ℝ) : Prop :=
  x = (if v.sign then -1 else 1) * (v.low.toNat * (2 : ℝ) ^ ((max v.exp.toNat 1 : Nat) - 16446 : ℤ))

/-- `r` is the order of `val(a)` and `val(b)`, an infinity beyond every number and the two zeros equal
(45_compare.md R352). -/
def IsOrder (a b : Fx80) (r : Rel) : Prop :=
  if a.isInf ∧ b.isInf then r = if a.sign = b.sign then .equal else if a.sign then .less else .greater
  else if a.isInf then r = if a.sign then .less else .greater
  else if b.isInf then r = if b.sign then .greater else .less
  else ∀ x y : ℝ, fxIsReal a x → fxIsReal b y →
    (x < y → r = .less) ∧ (x = y → r = .equal) ∧ (y < x → r = .greater)

/-! ## Encodings and accesses -/

/-- The unpopulated entries of the dispatch tables, as 30_encoding.md R114 lists them. -/
def invalidEntry (g : BitVec 3) (modrm : Byte) : Bool :=
  let b := modrm.toNat
  let between (lo hi : Nat) : Bool := decide (lo ≤ b ∧ b ≤ hi)
  if b < 0xC0 then
    let reg := b / 8 % 8
    match g.toNat with
    | 1 => reg == 1
    | 3 => reg == 1 || reg == 4 || reg == 6
    | 5 => reg == 1 || reg == 5
    | 7 => reg == 1
    | _ => false
  else
    match g.toNat with
    | 1 => between 0xD1 0xDF || b == 0xE2 || b == 0xE3 || b == 0xE6 || b == 0xE7 || b == 0xEF
    | 2 => between 0xE0 0xE8 || between 0xEA 0xFF
    | 3 => b == 0xE0 || b == 0xE1 || between 0xE4 0xE7 || between 0xF8 0xFF
    | 4 => between 0xD0 0xDF
    | 5 => between 0xC8 0xCF || between 0xF0 0xFF
    | 6 => between 0xD0 0xD8 || between 0xDA 0xDF
    | 7 => between 0xC0 0xDF || between 0xE1 0xE7 || between 0xF8 0xFF
    | _ => false

/-- Whether a byte at distance `d` from the operand of `FSTENV` or `FSAVE` belongs to CW, SW or TW (48_environment.md
R450). -/
def isEnvWordByte (opsize32 : Bool) (d : Nat) : Bool :=
  if opsize32 then d == 0 || d == 1 || d == 4 || d == 5 || d == 8 || d == 9 else decide (d < 6)

/-! ## A word of every row -/

/-- Group D8: a word of each row of its table (30_encoding.md R106). -/
def wordsD8 (ea : Addr) : List (Byte × Instr) :=
  [(0b00_000_101, .faddM32real ⟨0, 5, ea⟩), (0b01_001_000, .fmulM32real ⟨1, 0, ea⟩),
   (0b10_010_011, .fcomM32real ⟨2, 3, ea⟩), (0b00_011_110, .fcompM32real ⟨0, 6, ea⟩),
   (0b01_100_001, .fsubM32real ⟨1, 1, ea⟩), (0b10_101_100, .fsubrM32real ⟨2, 4, ea⟩),
   (0b00_110_111, .fdivM32real ⟨0, 7, ea⟩), (0b01_111_010, .fdivrM32real ⟨1, 2, ea⟩),
   (0b11_000_011, .faddStSti 3), (0b11_001_000, .fmulStSti 0), (0b11_010_101, .fcomSti 5),
   (0b11_011_010, .fcompSti 2), (0b11_100_111, .fsubStSti 7), (0b11_101_100, .fsubrStSti 4),
   (0b11_110_001, .fdivStSti 1), (0b11_111_110, .fdivrStSti 6)]

/-- Group D9: a word of each row of its table (30_encoding.md R107). -/
def wordsD9 (ea : Addr) : List (Byte × Instr) :=
  [(0b01_000_101, .fldM32real ⟨1, 5, ea⟩), (0b10_010_000, .fstM32real ⟨2, 0, ea⟩),
   (0b00_011_011, .fstpM32real ⟨0, 3, ea⟩), (0b01_100_110, .fldenv ⟨1, 6, ea⟩),
   (0b10_101_001, .fldcw ⟨2, 1, ea⟩), (0b00_110_100, .fstenv ⟨0, 4, ea⟩), (0b01_111_111, .fstcw ⟨1, 7, ea⟩),
   (0b11_000_110, .fldSti 6), (0b11_001_011, .fxch 3), (0b11_010_000, .fnop), (0b11_100_000, .fchs),
   (0b11_100_001, .fabs), (0b11_100_100, .ftst), (0b11_100_101, .fxam), (0b11_101_000, .fld1),
   (0b11_101_001, .fldl2t), (0b11_101_010, .fldl2e), (0b11_101_011, .fldpi), (0b11_101_100, .fldlg2),
   (0b11_101_101, .fldln2), (0b11_101_110, .fldz), (0b11_110_000, .f2xm1), (0b11_110_001, .fyl2x),
   (0b11_110_010, .fptan), (0b11_110_011, .fpatan), (0b11_110_100, .fxtract), (0b11_110_101, .fprem1),
   (0b11_110_110, .fdecstp), (0b11_110_111, .fincstp), (0b11_111_000, .fprem), (0b11_111_001, .fyl2xp1),
   (0b11_111_010, .fsqrt), (0b11_111_011, .fsincos), (0b11_111_100, .frndint), (0b11_111_101, .fscale),
   (0b11_111_110, .fsin), (0b11_111_111, .fcos)]

/-- Group DA: a word of each row of its table (30_encoding.md R108). -/
def wordsDA (ea : Addr) : List (Byte × Instr) :=
  [(0b10_000_100, .fiaddM32int ⟨2, 4, ea⟩), (0b00_001_111, .fimulM32int ⟨0, 7, ea⟩),
   (0b01_010_010, .ficomM32int ⟨1, 2, ea⟩), (0b10_011_101, .ficompM32int ⟨2, 5, ea⟩),
   (0b00_100_000, .fisubM32int ⟨0, 0, ea⟩), (0b01_101_011, .fisubrM32int ⟨1, 3, ea⟩),
   (0b10_110_110, .fidivM32int ⟨2, 6, ea⟩), (0b00_111_001, .fidivrM32int ⟨0, 1, ea⟩),
   (0b11_000_100, .fcmovb 4), (0b11_001_001, .fcmove 1), (0b11_010_110, .fcmovbe 6),
   (0b11_011_011, .fcmovu 3), (0b11_101_001, .fucompp)]

/-- Group DB: a word of each row of its table (30_encoding.md R109). -/
def wordsDB (ea : Addr) : List (Byte × Instr) :=
  [(0b00_000_011, .fildM32int ⟨0, 3, ea⟩), (0b01_010_110, .fistM32int ⟨1, 6, ea⟩),
   (0b10_011_001, .fistpM32int ⟨2, 1, ea⟩), (0b00_101_100, .fldM80real ⟨0, 4, ea⟩),
   (0b01_111_111, .fstpM80real ⟨1, 7, ea⟩), (0b11_000_110, .fcmovnb 6), (0b11_001_011, .fcmovne 3),
   (0b11_010_000, .fcmovnbe 0), (0b11_011_101, .fcmovnu 5), (0b11_100_010, .fclex), (0b11_100_011, .finit),
   (0b11_101_100, .fucomi 4), (0b11_110_001, .fcomi 1)]

/-- Group DC: a word of each row of its table (30_encoding.md R110). -/
def wordsDC (ea : Addr) : List (Byte × Instr) :=
  [(0b01_000_010, .faddM64real ⟨1, 2, ea⟩), (0b10_001_101, .fmulM64real ⟨2, 5, ea⟩),
   (0b00_010_000, .fcomM64real ⟨0, 0, ea⟩), (0b01_011_011, .fcompM64real ⟨1, 3, ea⟩),
   (0b10_100_110, .fsubM64real ⟨2, 6, ea⟩), (0b00_101_001, .fsubrM64real ⟨0, 1, ea⟩),
   (0b01_110_100, .fdivM64real ⟨1, 4, ea⟩), (0b10_111_111, .fdivrM64real ⟨2, 7, ea⟩),
   (0b11_000_110, .faddStiSt 6), (0b11_001_011, .fmulStiSt 3), (0b11_100_000, .fsubrStiSt 0),
   (0b11_101_101, .fsubStiSt 5), (0b11_110_010, .fdivrStiSt 2), (0b11_111_111, .fdivStiSt 7)]

/-- Group DD: a word of each row of its table (30_encoding.md R111). -/
def wordsDD (ea : Addr) : List (Byte × Instr) :=
  [(0b00_000_100, .fldM64real ⟨0, 4, ea⟩), (0b01_010_111, .fstM64real ⟨1, 7, ea⟩),
   (0b10_011_010, .fstpM64real ⟨2, 2, ea⟩), (0b00_100_101, .frstor ⟨0, 5, ea⟩),
   (0b01_110_000, .fsave ⟨1, 0, ea⟩), (0b10_111_011, .fstswM16 ⟨2, 3, ea⟩), (0b11_000_010, .ffree 2),
   (0b11_010_111, .fstSti 7), (0b11_011_100, .fstpSti 4), (0b11_100_001, .fucom 1),
   (0b11_101_110, .fucomp 6)]

/-- Group DE: a word of each row of its table (30_encoding.md R112). -/
def wordsDE (ea : Addr) : List (Byte × Instr) :=
  [(0b10_000_101, .fiaddM16int ⟨2, 5, ea⟩), (0b00_001_000, .fimulM16int ⟨0, 0, ea⟩),
   (0b01_010_011, .ficomM16int ⟨1, 3, ea⟩), (0b10_011_110, .ficompM16int ⟨2, 6, ea⟩),
   (0b00_100_001, .fisubM16int ⟨0, 1, ea⟩), (0b01_101_100, .fisubrM16int ⟨1, 4, ea⟩),
   (0b10_110_111, .fidivM16int ⟨2, 7, ea⟩), (0b00_111_010, .fidivrM16int ⟨0, 2, ea⟩),
   (0b11_000_011, .faddp 3), (0b11_001_000, .fmulp 0), (0b11_100_101, .fsubrp 5), (0b11_101_010, .fsubp 2),
   (0b11_110_111, .fdivrp 7), (0b11_111_100, .fdivp 4), (0b11_011_001, .fcompp)]

/-- Group DF: a word of each row of its table (30_encoding.md R113). -/
def wordsDF (ea : Addr) : List (Byte × Instr) :=
  [(0b10_000_010, .fildM16int ⟨2, 2, ea⟩), (0b00_010_101, .fistM16int ⟨0, 5, ea⟩),
   (0b01_011_000, .fistpM16int ⟨1, 0, ea⟩), (0b10_100_011, .fbld ⟨2, 3, ea⟩),
   (0b00_101_110, .fildM64int ⟨0, 6, ea⟩), (0b01_110_001, .fbstp ⟨1, 1, ea⟩),
   (0b10_111_100, .fistpM64int ⟨2, 4, ea⟩), (0b11_100_000, .fstswAx), (0b11_101_110, .fucomip 6),
   (0b11_110_011, .fcomip 3)]

/-- A word of every row of the opcode table, by its escape byte: what each must decode to (R106 to R113). -/
def sampleWords (ea : Addr) : List (Byte × Byte × Instr) :=
  (wordsD8 ea).map (0xD8#8, ·) ++ (wordsD9 ea).map (0xD9#8, ·) ++ (wordsDA ea).map (0xDA#8, ·) ++
    (wordsDB ea).map (0xDB#8, ·) ++ (wordsDC ea).map (0xDC#8, ·) ++ (wordsDD ea).map (0xDD#8, ·) ++
    (wordsDE ea).map (0xDE#8, ·) ++ (wordsDF ea).map (0xDF#8, ·)

end Sys2Proof.Machine

namespace Sys2Proof

open Sys2Proof.Machine

/-- Whether an instruction runs the funnel in a state (40_kernel_and_protocol.md R171): all but fifteen, and an
`FCMOVcc` only under a true condition (45_compare.md R390 to R398). -/
def Instr.funneledIn (i : Instr) (s : State) : Bool :=
  match i with
  | .fnop | .fldcw _ | .fstcw _ | .fstswM16 _ | .fstswAx | .fclex | .finit | .fincstp | .fdecstp | .ffree _
  | .fxam | .fstenv _ | .fldenv _ | .fsave _ | .frstor _ => false
  | .fcmovb _ => s.cf
  | .fcmove _ => s.zf
  | .fcmovbe _ => s.cf || s.zf
  | .fcmovu _ => s.pf
  | .fcmovnb _ => !s.cf
  | .fcmovne _ => !s.zf
  | .fcmovnbe _ => !s.cf && !s.zf
  | .fcmovnu _ => !s.pf
  | .faddM32real _ | .fmulM32real _ | .fcomM32real _ | .fcompM32real _ | .fsubM32real _ | .fsubrM32real _
  | .fdivM32real _ | .fdivrM32real _ | .faddStSti _ | .fmulStSti _ | .fcomSti _ | .fcompSti _ | .fsubStSti _
  | .fsubrStSti _ | .fdivStSti _ | .fdivrStSti _ | .fldM32real _ | .fstM32real _ | .fstpM32real _ | .fldSti _
  | .fxch _ | .fchs | .fabs | .ftst | .fld1 | .fldl2t | .fldl2e | .fldpi | .fldlg2 | .fldln2 | .fldz | .f2xm1
  | .fyl2x | .fptan | .fpatan | .fxtract | .fprem1 | .fprem | .fyl2xp1 | .fsqrt | .fsincos | .frndint | .fscale
  | .fsin | .fcos | .fiaddM32int _ | .fimulM32int _ | .ficomM32int _ | .ficompM32int _ | .fisubM32int _
  | .fisubrM32int _ | .fidivM32int _ | .fidivrM32int _ | .fucompp | .fildM32int _ | .fistM32int _
  | .fistpM32int _ | .fldM80real _ | .fstpM80real _ | .fucomi _ | .fcomi _ | .faddM64real _ | .fmulM64real _
  | .fcomM64real _ | .fcompM64real _ | .fsubM64real _ | .fsubrM64real _ | .fdivM64real _ | .fdivrM64real _
  | .faddStiSt _ | .fmulStiSt _ | .fsubrStiSt _ | .fsubStiSt _ | .fdivrStiSt _ | .fdivStiSt _ | .fldM64real _
  | .fstM64real _ | .fstpM64real _ | .fstSti _ | .fstpSti _ | .fucom _ | .fucomp _ | .fiaddM16int _
  | .fimulM16int _ | .ficomM16int _ | .ficompM16int _ | .fisubM16int _ | .fisubrM16int _ | .fidivM16int _
  | .fidivrM16int _ | .faddp _ | .fmulp _ | .fsubrp _ | .fsubp _ | .fdivrp _ | .fdivp _ | .fcompp
  | .fildM16int _ | .fistM16int _ | .fistpM16int _ | .fbld _ | .fildM64int _ | .fbstp _ | .fistpM64int _
  | .fucomip _ | .fcomip _ => true

/-- Whether an instruction stores to memory, the width in bytes of its first access to memory, and its operand
(20_memory.md R71, R74). -/
def Instr.access : Instr → Option (Bool × Nat × MemOperand)
  | .faddStSti _ | .fmulStSti _ | .fcomSti _ | .fcompSti _ | .fsubStSti _ | .fsubrStSti _ | .fdivStSti _
  | .fdivrStSti _ | .fldSti _ | .fxch _ | .fnop | .fchs | .fabs | .ftst | .fxam | .fld1 | .fldl2t | .fldl2e
  | .fldpi | .fldlg2 | .fldln2 | .fldz | .f2xm1 | .fyl2x | .fptan | .fpatan | .fxtract | .fprem1 | .fdecstp
  | .fincstp | .fprem | .fyl2xp1 | .fsqrt | .fsincos | .frndint | .fscale | .fsin | .fcos | .fcmovb _
  | .fcmove _ | .fcmovbe _ | .fcmovu _ | .fucompp | .fcmovnb _ | .fcmovne _ | .fcmovnbe _ | .fcmovnu _ | .fclex
  | .finit | .fucomi _ | .fcomi _ | .faddStiSt _ | .fmulStiSt _ | .fsubrStiSt _ | .fsubStiSt _ | .fdivrStiSt _
  | .fdivStiSt _ | .ffree _ | .fstSti _ | .fstpSti _ | .fucom _ | .fucomp _ | .faddp _ | .fmulp _ | .fsubrp _
  | .fsubp _ | .fdivrp _ | .fdivp _ | .fcompp | .fstswAx | .fucomip _ | .fcomip _ => none
  | .fldenv m | .fldcw m | .frstor m | .fiaddM16int m | .fimulM16int m | .ficomM16int m | .ficompM16int m
  | .fisubM16int m | .fisubrM16int m | .fidivM16int m | .fidivrM16int m | .fildM16int m => some (false, 2, m)
  | .faddM32real m | .fmulM32real m | .fcomM32real m | .fcompM32real m | .fsubM32real m | .fsubrM32real m
  | .fdivM32real m | .fdivrM32real m | .fldM32real m | .fiaddM32int m | .fimulM32int m | .ficomM32int m
  | .ficompM32int m | .fisubM32int m | .fisubrM32int m | .fidivM32int m | .fidivrM32int m | .fildM32int m =>
    some (false, 4, m)
  | .fldM80real m | .faddM64real m | .fmulM64real m | .fcomM64real m | .fcompM64real m | .fsubM64real m
  | .fsubrM64real m | .fdivM64real m | .fdivrM64real m | .fldM64real m | .fbld m | .fildM64int m => some (false, 8, m)
  | .fstenv m | .fstcw m | .fsave m | .fstswM16 m | .fistM16int m | .fistpM16int m => some (true, 2, m)
  | .fstM32real m | .fstpM32real m | .fistM32int m | .fistpM32int m => some (true, 4, m)
  | .fstpM80real m | .fstM64real m | .fstpM64real m | .fbstp m | .fistpM64int m => some (true, 8, m)

/-- The memory operand an instruction stores to and the bytes from its address on that it may write (20_memory.md R74,
R75; 48_environment.md R450, R454). -/
def Instr.stored (i : Instr) (opsize32 : Bool) : Option (MemOperand × Nat) :=
  match i with
  | .fstenv m => some (m, if opsize32 then 28 else 14)
  | .fsave m => some (m, if opsize32 then 108 else 94)
  | .fstpM80real m | .fbstp m => some (m, 10)
  | _ => match i.access with
    | some (true, n, m) => some (m, n)
    | _ => none

/-- SW after the checks and the computation of a funneled store, none for another instruction (42_load_store.md R240 to
R254). -/
def Instr.storeWord (i : Instr) (s : State) : Option Word :=
  match i with
  | .fstM32real _ | .fstpM32real _ => some (real32Out s).2
  | .fstM64real _ | .fstpM64real _ => some (real64Out s).2
  | .fstpM80real _ => some (if s.isEmpty 0 then underflowed s.sw else s.sw)
  | .fistM16int _ | .fistpM16int _ => some (intOut 16 s).2
  | .fistM32int _ | .fistpM32int _ => some (intOut 32 s).2
  | .fistpM64int _ => some (intOut 64 s).2
  | .fbstp _ => some (bcdOut s).2
  | _ => none

/-- The stack registers an instruction may write, counted from the TOP it starts with: 7 is the slot a push fills. -/
def Instr.targets : Instr → List Slot
  | .fcomM32real _ | .fcompM32real _ | .fcomSti _ | .fcompSti _ | .fstM32real _ | .fstpM32real _ | .fldenv _
  | .fldcw _ | .fstenv _ | .fstcw _ | .fnop | .ftst | .fxam | .fdecstp | .fincstp | .ficomM32int _
  | .ficompM32int _ | .fucompp | .fistM32int _ | .fistpM32int _ | .fstpM80real _ | .fclex | .finit | .fucomi _
  | .fcomi _ | .fcomM64real _ | .fcompM64real _ | .fstM64real _ | .fstpM64real _ | .fsave _ | .fstswM16 _
  | .ffree _ | .fucom _ | .fucomp _ | .ficomM16int _ | .ficompM16int _ | .fcompp | .fistM16int _
  | .fistpM16int _ | .fbstp _ | .fistpM64int _ | .fstswAx | .fucomip _ | .fcomip _ => []
  | .fldM32real _ | .fldM64real _ | .fldM80real _ | .fldSti _ | .fildM16int _ | .fildM32int _ | .fildM64int _
  | .fbld _ | .fld1 | .fldl2t | .fldl2e | .fldpi | .fldlg2 | .fldln2 | .fldz => [7]
  | .faddM32real _ | .fmulM32real _ | .fsubM32real _ | .fsubrM32real _ | .fdivM32real _ | .fdivrM32real _
  | .faddStSti _ | .fmulStSti _ | .fsubStSti _ | .fsubrStSti _ | .fdivStSti _ | .fdivrStSti _ | .fiaddM32int _
  | .fimulM32int _ | .fisubM32int _ | .fisubrM32int _ | .fidivM32int _ | .fidivrM32int _ | .faddM64real _
  | .fmulM64real _ | .fsubM64real _ | .fsubrM64real _ | .fdivM64real _ | .fdivrM64real _ | .fiaddM16int _
  | .fimulM16int _ | .fisubM16int _ | .fisubrM16int _ | .fidivM16int _ | .fidivrM16int _ | .fchs | .fabs
  | .fsqrt | .frndint | .fscale | .fprem | .fprem1 | .f2xm1 | .fsin | .fcos | .fcmovb _ | .fcmove _
  | .fcmovbe _ | .fcmovu _ | .fcmovnb _ | .fcmovne _ | .fcmovnbe _ | .fcmovnu _ => [0]
  | .fstSti i | .fstpSti i | .faddStiSt i | .fmulStiSt i | .fsubrStiSt i | .fsubStiSt i | .fdivrStiSt i
  | .fdivStiSt i | .faddp i | .fmulp i | .fsubrp i | .fsubp i | .fdivrp i | .fdivp i => [i]
  | .fyl2x | .fyl2xp1 | .fpatan => [1]
  | .fxtract | .fptan | .fsincos => [0, 7]
  | .fxch i => [0, i]
  | .frstor _ => [0, 1, 2, 3, 4, 5, 6, 7]

/-- The stack registers of which an instruction may change the tag alone: those it pops, and the one `FFREE` frees. -/
def Instr.retags : Instr → List Slot
  | .faddM32real _ | .fmulM32real _ | .fcomM32real _ | .fsubM32real _ | .fsubrM32real _ | .fdivM32real _
  | .fdivrM32real _ | .faddStSti _ | .fmulStSti _ | .fcomSti _ | .fsubStSti _ | .fsubrStSti _ | .fdivStSti _
  | .fdivrStSti _ | .fldM32real _ | .fstM32real _ | .fldenv _ | .fldcw _ | .fstenv _ | .fstcw _ | .fldSti _
  | .fxch _ | .fnop | .fchs | .fabs | .ftst | .fxam | .fld1 | .fldl2t | .fldl2e | .fldpi | .fldlg2 | .fldln2
  | .fldz | .f2xm1 | .fptan | .fxtract | .fprem1 | .fdecstp | .fincstp | .fprem | .fsqrt | .fsincos | .frndint
  | .fscale | .fsin | .fcos | .fiaddM32int _ | .fimulM32int _ | .ficomM32int _ | .fisubM32int _
  | .fisubrM32int _ | .fidivM32int _ | .fidivrM32int _ | .fcmovb _ | .fcmove _ | .fcmovbe _ | .fcmovu _
  | .fildM32int _ | .fistM32int _ | .fldM80real _ | .fcmovnb _ | .fcmovne _ | .fcmovnbe _ | .fcmovnu _ | .fclex
  | .finit | .fucomi _ | .fcomi _ | .faddM64real _ | .fmulM64real _ | .fcomM64real _ | .fsubM64real _
  | .fsubrM64real _ | .fdivM64real _ | .fdivrM64real _ | .faddStiSt _ | .fmulStiSt _ | .fsubrStiSt _
  | .fsubStiSt _ | .fdivrStiSt _ | .fdivStiSt _ | .fldM64real _ | .fstM64real _ | .frstor _ | .fsave _
  | .fstswM16 _ | .fstSti _ | .fucom _ | .fiaddM16int _ | .fimulM16int _ | .ficomM16int _ | .fisubM16int _
  | .fisubrM16int _ | .fidivM16int _ | .fidivrM16int _ | .fildM16int _ | .fistM16int _ | .fbld _
  | .fildM64int _ | .fstswAx => []
  | .fstpM32real _ | .fstpM64real _ | .fstpM80real _ | .fstpSti _ | .fistpM16int _ | .fistpM32int _
  | .fistpM64int _ | .fbstp _ | .faddp _ | .fmulp _ | .fsubrp _ | .fsubp _ | .fdivrp _ | .fdivp _
  | .fcompM32real _ | .fcompM64real _ | .fcompSti _ | .fucomp _ | .ficompM16int _ | .ficompM32int _ | .fcomip _
  | .fucomip _ | .fyl2x | .fyl2xp1 | .fpatan => [0]
  | .fcompp | .fucompp => [0, 1]
  | .ffree i => [i]

/-- How far an instruction that completes moves TOP (40_kernel_and_protocol.md R161, R162; 47_control.md R427, R428). -/
def Instr.moves : Instr → Slot
  | .faddM32real _ | .fmulM32real _ | .fcomM32real _ | .fsubM32real _ | .fsubrM32real _ | .fdivM32real _
  | .fdivrM32real _ | .faddStSti _ | .fmulStSti _ | .fcomSti _ | .fsubStSti _ | .fsubrStSti _ | .fdivStSti _
  | .fdivrStSti _ | .fstM32real _ | .fldenv _ | .fldcw _ | .fstenv _ | .fstcw _ | .fxch _ | .fnop | .fchs
  | .fabs | .ftst | .fxam | .f2xm1 | .fprem1 | .fprem | .fsqrt | .frndint | .fscale | .fsin | .fcos
  | .fiaddM32int _ | .fimulM32int _ | .ficomM32int _ | .fisubM32int _ | .fisubrM32int _ | .fidivM32int _
  | .fidivrM32int _ | .fcmovb _ | .fcmove _ | .fcmovbe _ | .fcmovu _ | .fistM32int _ | .fcmovnb _ | .fcmovne _
  | .fcmovnbe _ | .fcmovnu _ | .fclex | .finit | .fucomi _ | .fcomi _ | .faddM64real _ | .fmulM64real _
  | .fcomM64real _ | .fsubM64real _ | .fsubrM64real _ | .fdivM64real _ | .fdivrM64real _ | .faddStiSt _
  | .fmulStiSt _ | .fsubrStiSt _ | .fsubStiSt _ | .fdivrStiSt _ | .fdivStiSt _ | .fstM64real _ | .frstor _
  | .fsave _ | .fstswM16 _ | .ffree _ | .fstSti _ | .fucom _ | .fiaddM16int _ | .fimulM16int _ | .ficomM16int _
  | .fisubM16int _ | .fisubrM16int _ | .fidivM16int _ | .fidivrM16int _ | .fistM16int _ | .fstswAx => 0
  | .fldM32real _ | .fldM64real _ | .fldM80real _ | .fldSti _ | .fildM16int _ | .fildM32int _ | .fildM64int _
  | .fbld _ | .fld1 | .fldl2t | .fldl2e | .fldpi | .fldlg2 | .fldln2 | .fldz | .fxtract | .fptan | .fsincos
  | .fdecstp => 7
  | .fstpM32real _ | .fstpM64real _ | .fstpM80real _ | .fstpSti _ | .fistpM16int _ | .fistpM32int _
  | .fistpM64int _ | .fbstp _ | .faddp _ | .fmulp _ | .fsubrp _ | .fsubp _ | .fdivrp _ | .fdivp _
  | .fcompM32real _ | .fcompM64real _ | .fcompSti _ | .fucomp _ | .ficompM16int _ | .ficompM32int _ | .fcomip _
  | .fucomip _ | .fyl2x | .fyl2xp1 | .fpatan | .fincstp => 1
  | .fcompp | .fucompp => 2

end Sys2Proof
end

