-- ==== Sys2Proof/Certificates/Slice0/Obligations.lean ====
section
/-! DEFINITION. The statements for the provers. `settles` and the other terms are those of Sys2Proof/Safety.lean. -/

open Sys2Proof Sys2Proof.Machine

/-! ## Encoding -/

/-- Decoding the encoding of a well-formed instruction gives it back, with every operand (30_encoding.md R100 to R113). -/
def Obligations.DecodeInvertsEncode : Prop :=
  ∀ i : Instr, i.wellFormed = true → decode (encode i) = .instr i

/-- What decodes is well-formed and has the bytes it was read from, so no two instructions share a word (R105). -/
def Obligations.EncodeInvertsDecode : Prop :=
  ∀ (x : Located) (i : Instr), decode x = .instr i →
    i.wellFormed = true ∧ (encode i).esc = x.esc ∧ (encode i).modrm = x.modrm ∧
      (x.modrm < 0xC0#8 → (encode i).ea = x.ea)

/-- The encodings that raise the fatal decode error are exactly those of the list of R114. -/
def Obligations.FatalDecodeExactly : Prop :=
  ∀ (g : BitVec 3) (modrm : Byte) (ea : Addr),
    decode ⟨0b11011#5 ++ g, modrm, ea⟩ = .reject (.fatalDecode g modrm) ↔ invalidEntry g modrm = true

/-- A word of every one of the 129 rows, written out from the tables of R106 to R113, decodes to the instruction of its
row; and eight words more. -/
def Obligations.SampleWordsDecode : Prop :=
  ∀ ea : Addr,
    ((sampleWords ea).length = 129 ∧ ∀ w ∈ sampleWords ea, decode ⟨w.1, w.2.1, ea⟩ = .instr w.2.2) ∧
    decode ⟨0xD8#8, 0b00_000_101#8, ea⟩ = .instr (.faddM32real ⟨0, 5, ea⟩) ∧
    decode ⟨0xD9#8, 0b11_001_011#8, ea⟩ = .instr (.fxch 3) ∧
    decode ⟨0xDA#8, 0b11_101_001#8, ea⟩ = .instr .fucompp ∧
    decode ⟨0xDB#8, 0b01_101_100#8, ea⟩ = .instr (.fldM80real ⟨1, 4, ea⟩) ∧
    decode ⟨0xDC#8, 0b11_100_010#8, ea⟩ = .instr (.fsubrStiSt 2) ∧
    decode ⟨0xDD#8, 0b10_100_000#8, ea⟩ = .instr (.frstor ⟨2, 0, ea⟩) ∧
    decode ⟨0xDE#8, 0b11_011_001#8, ea⟩ = .instr .fcompp ∧
    decode ⟨0xDF#8, 0b11_100_000#8, ea⟩ = .instr .fstswAx

/-! ## The step -/

/-- A step runs the call at the position in the host's sequence, in the state with the position advanced; with none left
the state stays (10_state.md R30; the sequence is notes/assumptions/1.md). That a call starts with the outputs of the last
one gone is the model's choice (notes/assumptions/20.md). -/
def Obligations.StepRunsTheNextCall : Prop :=
  ∀ s : State,
    let b : State := { s with pos := s.pos + 1, mfRequest := false, hostFault := none, portOut := none }
    (∀ x i, s.stream[s.pos]? = some (.insn x) → decode x = .instr i → step s = exec i b) ∧
    (∀ c, s.stream[s.pos]? = some (.port c) → step s = .next (portStep c b)) ∧
    (∀ e, s.stream[s.pos]? = some (.event e) → step s = .next (hostStep e b)) ∧
    (s.stream[s.pos]? = none → step s = .next s)

/-- A step stops on bytes that are no instruction: on an unpopulated entry with the fatal decode error, on a byte the host
never hands over with a refusal (60_exceptions.md R510; notes/assumptions/16.md), and on nothing else. That nothing else
stops is the model's choice for arithmetic under PC = 01 and for an unsupported operand, where the spec leaves the
behaviour open (notes/assumptions/8.md, 9.md), and for an access the host ends (notes/assumptions/13.md). -/
def Obligations.StepStopsOnlyOnBadBytes : Prop :=
  ∀ s : State,
    (∀ x, s.stream[s.pos]? = some (.insn x) →
      (∀ g, x.esc = 0b11011#5 ++ g → invalidEntry g x.modrm = true → step s = .fault (.fatalDecode g x.modrm)) ∧
      (x.esc < 0xD8#8 ∨ 0xDF#8 < x.esc → step s = .refused (.notEscape x.esc))) ∧
    (s.goesOn ∨
    (∃ x g, s.stream[s.pos]? = some (.insn x) ∧ x.esc = 0b11011#5 ++ g ∧ invalidEntry g x.modrm = true ∧
      step s = .fault (.fatalDecode g x.modrm)) ∨
    (∃ x, s.stream[s.pos]? = some (.insn x) ∧ (x.esc < 0xD8#8 ∨ 0xDF#8 < x.esc) ∧
      step s = .refused (.notEscape x.esc)))

/-! ## Invariants -/

/-- Every step keeps memory canonical, FX empty and RM equal to what CW.RC says (10_state.md R41, R42, R46). -/
def Obligations.StepKeepsInv : Prop :=
  ∀ s t : State, s.Inv → step s = .next t → t.Inv

/-- The reset state has the invariants. -/
def Obligations.ResetHasInv : Prop := State.reset.Inv ∧ State.reset.tagsAgree

/-- `reset()` gives every piece of the block the value of R60 and touches nothing else; the reset state has those
values. -/
def Obligations.ResetValues : Prop :=
  (∀ s : State, hostStep .reset s =
    { s with cw := 0x037F#16, sw := 0x0000#16, tw := 0xFFFF#16, fip := 0, fdp := 0, fop := 0, fx := KFlags.empty,
             rm := .rn }) ∧
  hostStep .reset State.reset = State.reset

/-- Every instruction but `FLDENV` keeps the tags in agreement with the values; `FRSTOR` does unless the host ends it
half-way (10_state.md R24, R46). -/
def Obligations.TagsAgreeExceptAfterFldenv : Prop :=
  ∀ (i : Instr) (s t : State), (∀ m, i ≠ .fldenv m) → (∀ m, i = .frstor m → s.guards = []) →
    s.tagsAgree → exec i s = .next t → t.tagsAgree

/-- The six exception latches and SF are sticky: only `FCLEX`, `FINIT`, `FLDENV`, `FRSTOR`, and `FSAVE` where the
parameter makes it re-initialise, can clear one; and no instruction but a load of SW sets DE or BUSY (10_state.md R26,
R32, R46; 60_exceptions.md R502). -/
def Obligations.LatchesAreSticky : Prop :=
  ∀ (i : Instr) (s t : State) (n : Nat), exec i s = .next t → (∀ m, i ≠ .fldenv m) → (∀ m, i ≠ .frstor m) →
    (n < 7 → i ≠ .fclex → i ≠ .finit → (∀ m, i = .fsave m → s.params.fsaveReinit = false) →
      s.sw.getLsbD n = true → t.sw.getLsbD n = true) ∧
    (n = 1 ∨ n = 15 → s.sw.getLsbD n = false → t.sw.getLsbD n = false)

/-- Only `FLDCW`, `FLDENV`, `FRSTOR`, `FINIT`, and `FSTENV` and `FSAVE` where a parameter says so, change CW
(10_state.md R37); only `FINIT`, and `FSAVE` where the parameter makes it re-initialise, can change a pointer register
(R38). -/
def Obligations.ControlWordAndPointersChangedOnlyBy : Prop :=
  ∀ (i : Instr) (s t : State), exec i s = .next t → i ≠ .finit →
    (∀ m, i = .fsave m → s.params.fsaveReinit = false) →
    t.fip = s.fip ∧ t.fdp = s.fdp ∧ t.fop = s.fop ∧
    ((∀ m, i ≠ .fldcw m) → (∀ m, i ≠ .fldenv m) → (∀ m, i ≠ .frstor m) →
      (∀ m, i = .fstenv m → s.params.fstenvMasks = false) → t.cw = s.cw)

/-- Every instruction answers a next state from every state and every operand, and of the host it changes memory in the
bytes it stores, AX by `FSTSW AX`, the flags by the `FCOMI` family, the trap state and the cycle counter, nothing else;
nor the parameters, the sequence of calls or the kernel's rounding mode other than with CW (10_state.md R42, R44). That
a next state is answered on an access the host ends, under PC = 01 and with an unsupported operand is the model's choice
(notes/assumptions/13.md, 8.md, 9.md); stored addresses wrap at 2^32 (14.md). -/
def Obligations.HostFrame : Prop :=
  ∀ (i : Instr) (s : State), ∃ t, exec i s = .next t ∧
    t.honorsMf = s.honorsMf ∧ t.prot = s.prot ∧ t.opsize32 = s.opsize32 ∧ t.trapReturns = s.trapReturns ∧
    t.guards = s.guards ∧
    t.params = s.params ∧ t.stream = s.stream ∧ t.pos = s.pos ∧ t.portOut = s.portOut ∧
    (t.cw = s.cw → s.rm = rcTable (rcOf s.cw) → t.rm = s.rm) ∧
    (i ≠ .fstswAx → t.ax = s.ax) ∧
    ((∀ j, i ≠ .fcomi j ∧ i ≠ .fcomip j ∧ i ≠ .fucomi j ∧ i ≠ .fucomip j) →
      t.zf = s.zf ∧ t.pf = s.pf ∧ t.cf = s.cf) ∧
    (i.stored s.opsize32 = none → t.mem = s.mem) ∧
    (∀ m n, i.stored s.opsize32 = some (m, n) → ∀ a, inBytes m.ea n a = false → t.mem.read a = s.mem.read a)

/-- The register stack after any instruction, whatever its operands: only the registers it targets are written, only
their tags and those of the slots it pops or frees change, and TOP stays or moves by the pushes or pops of the
instruction; TW and TOP are loaded whole by `FLDENV`, `FRSTOR`, `FINIT`, and `FSAVE` where the parameter makes it
re-initialise (40_kernel_and_protocol.md R161 to R163, R172). -/
def Obligations.StackFrame : Prop :=
  ∀ (i : Instr) (s t : State), exec i s = .next t →
    (∀ p : Slot, p ∉ i.targets.map (s.top + ·) → t.reg p = s.reg p) ∧
    (i ≠ .finit → (∀ m, i ≠ .fldenv m ∧ i ≠ .frstor m) → (∀ m, i = .fsave m → s.params.fsaveReinit = false) →
      (t.top = s.top ∨ t.top = s.top + i.moves) ∧
      ∀ p : Slot, p ∉ (i.targets ++ i.retags).map (s.top + ·) → tagOfSlot t.tw p = tagOfSlot s.tw p)

/-! ## The funnel and the math fault -/

/-- The instructions of R171 run without the funnel: whatever is pending they request no math fault, and none of them but
`FCLEX`, `FINIT`, `FLDENV`, `FRSTOR`, and `FSAVE` where the parameter makes it re-initialise, changes ES (47_control.md
R420). They answer a next state also where the host ends an access, the model's choice (notes/assumptions/13.md). -/
def Obligations.UnfunneledNeverRequestMathFault : Prop :=
  ∀ (i : Instr) (s : State), i.funneledIn s = false →
    ∃ t, exec i s = .next t ∧ t.mfRequest = s.mfRequest ∧
      (i ≠ .fclex → i ≠ .finit → (∀ m, i ≠ .fldenv m) → (∀ m, i ≠ .frstor m) →
        (∀ m, i = .fsave m → s.params.fsaveReinit = false) → t.sw.getLsbD 7 = s.sw.getLsbD 7)

/-- While an unmasked exception is pending, every funneled instruction commits nothing: it only adds latches, may change
C1, sets ES, requests the math fault if the host honours it, and reports its cycles unless the host's `i386_trap` does not
return (40_kernel_and_protocol.md R165, R166, R172; 60_exceptions.md R506, R509, R513; 70_reset_and_hazards.md R553). -/
def Obligations.PendingExceptionSuppresses : Prop :=
  ∀ (i : Instr) (s : State), i.funneledIn s = true → s.fx = KFlags.empty → s.guards = [] →
    pendingOf s.cw s.sw ≠ 0#6 →
    ∃ (sw : Word) (n : Nat), exec i s = .next (afterTrap i { suppressed s sw with free := n }) ∧
      (sw ^^^ s.sw) &&& 0xFD80#16 = 0#16 ∧ s.sw &&& 0x007F#16 &&& ~~~sw = 0#16

/-- A funneled instruction that the host does not end commits all or nothing, whatever its operands, unsupported ones
included: either nothing is pending afterwards, ES is clear and TOP has made the instruction's whole move, or an unmasked
exception is pending, ES is set, the math fault is requested of a host that honours it, and the registers, TW, TOP,
memory, AX and the host flags are as before (40_kernel_and_protocol.md R165, R172; 60_exceptions.md R509). That it also
holds of unsupported operands and under PC = 01 is the model's choice (notes/assumptions/9.md, 8.md). -/
def Obligations.CommitIsAllOrNothing : Prop :=
  ∀ (i : Instr) (s : State), i.funneledIn s = true → s.guards = [] → ∃ t, exec i s = .next t ∧ t.fx = KFlags.empty ∧
    ((pendingOf t.cw t.sw = 0#6 ∧ t.sw.getLsbD 7 = false ∧ t.top = s.top + i.moves ∧ t.mfRequest = s.mfRequest) ∨
      (pendingOf t.cw t.sw ≠ 0#6 ∧ t.sw.getLsbD 7 = true ∧ t.mfRequest = (s.mfRequest || s.honorsMf) ∧
        t.regs = s.regs ∧ t.tw = s.tw ∧ t.top = s.top ∧ t.mem = s.mem ∧ t.ax = s.ax ∧ t.zf = s.zf ∧ t.pf = s.pf ∧
        t.cf = s.cf))

/-- A host-level fault inside `GetEA`, or in the first read of an instruction that reads, leaves everything as it was but
the record of the fault; so does one in the second read of an 80-bit operand. One in the second read of `FLDENV` or
`FRSTOR` leaves CW installed, one in the third CW and SW, and one in a register image of `FRSTOR` the three words and the
registers before it, re-tagged as far as they are installed (20_memory.md R79; 48_environment.md R453, R456; which
accesses the host ends is the model's choice, notes/assumptions/13.md). -/
def Obligations.HostFaultOnReadLeavesBlock : Prop :=
  ∀ (i : Instr) (s : State) (rw : Bool) (n : Nat) (m : MemOperand), i.access = some (rw, n, m) →
    (s.guarded (.getEa rw) m.ea 1 = true →
      exec i s = .next { s with hostFault := some ⟨.getEa rw, m.ea⟩ }) ∧
    (rw = false → s.guarded (.getEa false) m.ea 1 = false → s.guarded .read m.ea n = true →
      exec i s = .next { s with hostFault := some ⟨.read, m.ea⟩ }) ∧
    (i = .fldM80real m ∨ i = .fbld m → s.guarded (.getEa false) m.ea 1 = false →
      s.guarded .read m.ea 8 = false → s.guarded .read (m.ea + 8) 2 = true →
      exec i s = .next { s with hostFault := some ⟨.read, m.ea + 8⟩ }) ∧
    (i = .fldenv m ∨ i = .frstor m → s.guarded (.getEa false) m.ea 1 = false → s.guarded .read m.ea 2 = false →
      let d : Addr := if s.opsize32 then 4 else 2
      let c := BitVec.ofNat 16 (s.mem.readLE 2 m.ea)
      let w := BitVec.ofNat 16 (s.mem.readLE 2 (m.ea + d))
      (s.guarded .read (m.ea + d) 2 = true → exec i s = .next { s with
        cw := c, rm := rcTable (rcOf c), hostFault := some ⟨.read, m.ea + d⟩ }) ∧
      (s.guarded .read (m.ea + d) 2 = false → s.guarded .read (m.ea + 2 * d) 2 = true → exec i s = .next { s with
        cw := c, rm := rcTable (rcOf c), sw := w, hostFault := some ⟨.read, m.ea + 2 * d⟩ })) ∧
    (i = .frstor m → s.guarded (.getEa false) m.ea 1 = false →
      let d : Addr := if s.opsize32 then 4 else 2
      let c := BitVec.ofNat 16 (s.mem.readLE 2 m.ea)
      let w := BitVec.ofNat 16 (s.mem.readLE 2 (m.ea + d))
      let tw := BitVec.ofNat 16 (s.mem.readLE 2 (m.ea + 2 * d))
      ∀ (j : Slot) (a : Addr), s.endsAtImage .read m.ea j a →
        ∃ regs tags, exec i s = .next { s with
            cw := c, rm := rcTable (rcOf c), sw := w, tw := tags, regs := regs, hostFault := some ⟨.read, a⟩ } ∧
          ∀ k : Slot,
            let v := s.mem.read80 (imageAt s.opsize32 m.ea k)
            let p := topOf w + k
            if k < j then regs[p.toNat] = v ∧ tagOfSlot tags p = if tagOfSlot tw p = 3#2 then 3#2 else tagOf v
            else regs[p.toNat] = s.reg p ∧ tagOfSlot tags p = tagOfSlot tw p)

/-- A host-level fault in the first write of an instruction leaves the registers, the tags, TOP, CW and memory: the pop of
a popping store has not happened. One in the second write of `FSTP m80real` or `FBSTP` leaves the eight bytes of the first
write stored, and the pop has not happened. The latches, ES and C1 of the instruction stay, and an instruction whose funnel
has failed makes no write that could be ended. One in a later write of `FSTENV` or `FSAVE` leaves the words and images
before it stored, and the block as it was (20_memory.md R79; 48_environment.md R452, R455; which accesses the host ends,
and that none of the bytes of an ended write is stored, is the model's choice, notes/assumptions/13.md). -/
def Obligations.HostFaultOnWriteKeepsStack : Prop :=
  ∀ (i : Instr) (s : State) (n : Nat) (m : MemOperand), i.access = some (true, n, m) →
    s.guarded (.getEa true) m.ea 1 = false →
    (s.guarded .write m.ea n = true →
      ∃ t, exec i s = .next t ∧ t.regs = s.regs ∧ t.tw = s.tw ∧ t.top = s.top ∧ t.cw = s.cw ∧ t.mem = s.mem ∧
        t.sw &&& 0xFD00#16 = s.sw &&& 0xFD00#16) ∧
    (i = .fstpM80real m ∨ i = .fbstp m → s.guarded .write m.ea 8 = false → s.guarded .write (m.ea + 8) 2 = true →
      ∃ t, exec i s = .next t ∧ t.regs = s.regs ∧ t.tw = s.tw ∧ t.top = s.top ∧ t.cw = s.cw ∧
        t.sw &&& 0xFD00#16 = s.sw &&& 0xFD00#16 ∧ (pendingOf t.cw t.sw ≠ 0#6 → t.mem = s.mem) ∧
        (pendingOf t.cw t.sw = 0#6 → t.hostFault = some ⟨.write, m.ea + 8⟩ ∧
          ∃ v : Nat, t.mem = s.mem.writeLE 8 m.ea v ∧
            (i = .fstpM80real m → v = (if s.isEmpty 0 then indef else s.st 0).low.toNat) ∧
            (i = .fbstp m → s.isEmpty 0 = true ∨ (s.st 0).isUnsupported = false → v = (bcdOut s).1.low.toNat))) ∧
    (∀ w, i.storeWord s = some w → s.fx = KFlags.empty →
      (i = .fstpM80real m ∨ s.isEmpty 0 = true ∨ (s.st 0).isUnsupported = false) →
      (pendingOf s.cw w ≠ 0#6 → exec i s = .next (afterTrap i (suppressed s w))) ∧
      (pendingOf s.cw w = 0#6 → s.guarded .write m.ea n = true →
        exec i s = .next { s with sw := w &&& 0xFF7F#16, hostFault := some ⟨.write, m.ea⟩ }) ∧
      (pendingOf s.cw w = 0#6 → (i = .fstpM80real m ∨ i = .fbstp m) → s.guarded .write m.ea 8 = false →
        s.guarded .write (m.ea + 8) 2 = true → ∃ mem, exec i s = .next { s with
          sw := w &&& 0xFF7F#16, mem := mem, hostFault := some ⟨.write, m.ea + 8⟩ })) ∧
    (i.storeWord s = none → s.guarded .write m.ea n = true →
      exec i s = .next { s with hostFault := some ⟨.write, m.ea⟩ }) ∧
    (i = .fstenv m ∨ i = .fsave m → s.guarded .write m.ea 2 = false →
      let d : Addr := if s.opsize32 then 4 else 2
      let first := s.mem.writeLE 2 m.ea s.cw.toNat
      (s.guarded .write (m.ea + d) 2 = true →
        exec i s = .next { s with mem := first, hostFault := some ⟨.write, m.ea + d⟩ }) ∧
      (s.guarded .write (m.ea + d) 2 = false → s.guarded .write (m.ea + 2 * d) 2 = true → exec i s = .next { s with
        mem := first.writeLE 2 (m.ea + d) s.sw.toNat, hostFault := some ⟨.write, m.ea + 2 * d⟩ })) ∧
    (i = .fsave m → ∀ (j : Slot) (a : Addr), s.endsAtImage .write m.ea j a →
      let d : Addr := if s.opsize32 then 4 else 2
      ∃ mem, exec i s = .next { s with mem := mem, hostFault := some ⟨.write, a⟩ } ∧
        mem.readLE 2 m.ea = s.cw.toNat ∧ mem.readLE 2 (m.ea + d) = s.sw.toNat ∧
        mem.readLE 2 (m.ea + 2 * d) = s.tw.toNat ∧
        (∀ k : Slot, k < j → mem.read80 (imageAt s.opsize32 m.ea k) = s.st k) ∧
        (a = imageAt s.opsize32 m.ea j + 8 → mem.readLE 8 (imageAt s.opsize32 m.ea j) = (s.st j).low.toNat) ∧
        ∀ b : Addr, ((a - m.ea).toNat ≤ (b - m.ea).toNat ∨ ((b - m.ea).toNat < (if s.opsize32 then 28 else 14) ∧
          isEnvWordByte s.opsize32 (b - m.ea).toNat = false)) → mem.read b = s.mem.read b)

/-! ## The kernel -/

/-- The rounding-direction function (40_kernel_and_protocol.md R139), and round to integer, which returns a NaN, an infinity
and a zero unchanged and else the encoding of the integer the function chooses, with `inexact` exactly when the value
changed (R149). -/
def Obligations.RintDirectionIsR139 : Prop :=
  (∀ (rm : Rm) (s : Bool) (num den : Nat), den ≠ 0 → IsRint rm s ((num : ℝ) / den) (rintDir rm s num den)) ∧
  ∀ (rm : Rm) (a : Fx80), a.isUnsupported = false →
    let r := kRint rm a
    (a.isFinite = false ∨ a.isZero = true → r = (a, KFlags.empty)) ∧
    (a.isFinite = true → a.isZero = false → ∀ x : ℝ, fxIsAbs a x → ∃ n : ℕ, IsRint rm a.sign x n ∧
      r.1 = packExt (if n = 0 then .zero a.sign else .fin a.sign n 0) ∧ fxIsAbs r.1 n ∧
      integerOf r.1 = (if a.sign then -(n : ℤ) else n) ∧ r.2 = ⟨false, false, false, false, r.2.inexact⟩ ∧
      (r.2.inexact = true ↔ (n : ℝ) ≠ x))

/-- Rounding to a format, with tininess after rounding, the underflow, overflow and inexact flags, and the overflow
result by mode (40_kernel_and_protocol.md R140). -/
def Obligations.RoundingIsR140 : Prop :=
  ∀ (f : Fmt) (rm : Rm) (s : Bool) (num den : Nat) (e : Int), num ≠ 0 → den ≠ 0 →
    IsRounded f rm s ((num : ℝ) / den * (2 : ℝ) ^ e) (roundF f rm s num den e)

/-- Sums, differences, products and quotients of finite non-zero operands are the exact results rounded once; an exact zero
sum has the sign of R141. Zeros and infinities as R145 to R147 have them: the invalid operations give the default NaN, a
finite number divided by zero the signed infinity with `divbyzero`, and every other case is exact and silent. With a NaN
operand the result is a NaN and no flag is raised: by the default of R151 the only NaN, or the larger significand, or the
positive one; else some quiet NaN (40_kernel_and_protocol.md R141, R145 to R147, R151). -/
def Obligations.ArithmeticRoundsOnce : Prop :=
  (∀ (f : Fmt) (k : KMode) (s t : Bool) (m n : Nat) (e g : Int), m ≠ 0 → n ≠ 0 →
    let a := Val.fin s m e
    let b := Val.fin t n g
    let x : ℝ := (if s then -1 else 1) * (m * (2 : ℝ) ^ e)
    let y : ℝ := (if t then -1 else 1) * (n * (2 : ℝ) ^ g)
    IsRounded f k.rm (s != t) |x * y| (kMul f k a b) ∧
    IsRounded f k.rm (s != t) |x / y| (kDiv f k a b) ∧
    (0 < x + y → IsRounded f k.rm false |x + y| (kAdd f k a b)) ∧
    (x + y < 0 → IsRounded f k.rm true |x + y| (kAdd f k a b)) ∧
    (x + y = 0 → kAdd f k a b = (.zero (decide (k.rm = .rd)), KFlags.empty)) ∧
    kSub f k a b = kAdd f k a (.fin (!t) n g)) ∧
  (∀ (f : Fmt) (k : KMode) (s t : Bool) (m : Nat) (e : Int), m ≠ 0 →
    let x : ℝ := m * (2 : ℝ) ^ e
    let num := Val.fin t m e
    let invalid := (Val.nan true f.defaultNan, KFlags.invalidOnly)
    let inf (b : Bool) := (Val.inf b, KFlags.empty)
    let zero (b : Bool) := (Val.zero b, KFlags.empty)
    (kMul f k (.zero s) (.inf t) = invalid ∧ kMul f k (.inf s) (.zero t) = invalid ∧
      kDiv f k (.inf s) (.inf t) = invalid ∧ kDiv f k (.zero s) (.zero t) = invalid ∧
      kAdd f k (.inf s) (.inf t) = (if s = t then inf s else invalid) ∧
      kSub f k (.inf s) (.inf t) = if s = t then invalid else inf s) ∧
    (∀ v ∈ [Val.zero t, num], kAdd f k (.inf s) v = inf s ∧ kAdd f k v (.inf s) = inf s ∧
      kSub f k (.inf s) v = inf s ∧ kSub f k v (.inf s) = inf (!s) ∧
      kDiv f k (.inf s) v = inf (s != t) ∧ kDiv f k v (.inf s) = zero (s != t) ∧
      kMul f k (.zero s) v = zero (s != t) ∧ kMul f k v (.zero s) = zero (s != t)) ∧
    (∀ v ∈ [Val.inf t, num], kMul f k (.inf s) v = inf (s != t) ∧ kMul f k v (.inf s) = inf (s != t) ∧
      kDiv f k (.zero s) v = zero (s != t)) ∧
    kDiv f k (.inf s) (.zero t) = inf (s != t) ∧
    kDiv f k num (.zero s) = (.inf (s != t), KFlags.divbyzeroOnly) ∧
    kAdd f k (.zero s) (.zero t) = zero (if s = t then s else decide (k.rm = .rd)) ∧
    kSub f k (.zero s) (.zero t) = zero (if s = t then decide (k.rm = .rd) else s) ∧
    IsRounded f k.rm t x (kAdd f k (.zero s) num) ∧ IsRounded f k.rm t x (kAdd f k num (.zero s)) ∧
    IsRounded f k.rm (!t) x (kSub f k (.zero s) num) ∧ IsRounded f k.rm t x (kSub f k num (.zero s))) ∧
  (∀ op ∈ [kAdd, kSub, kMul, kDiv], ∀ (f : Fmt) (k : KMode),
    (k.nanSelect = .largerSignificand → ∀ (s t : Bool) (m n : Nat),
      (∀ v : Val, v.isNan = false → op f k (.nan s m) v = (.nan s m, KFlags.empty) ∧
        op f k v (.nan s m) = (.nan s m, KFlags.empty)) ∧
      op f k (.nan s m) (.nan t n) =
        (if n < m then .nan s m else if m < n then .nan t n else .nan (s && t) m, KFlags.empty)) ∧
    (k.nanSelect = .anyQuiet → ∀ a b : Val, a.isNan = true ∨ b.isNan = true →
      ∃ (s : Bool) (sig : Nat), sig < 2 ^ f.sigBits ∧ op f k a b = (.nan s (sig ||| f.defaultNan), KFlags.empty))) ∧
  packExt (.nan true Fmt.ext.defaultNan) = indef ∧ widen .f64 (.nan true Fmt.f64.defaultNan) = indef ∧
    widen .f32 (.nan true Fmt.f32.defaultNan) = indef

/-- The square root of a positive extended operand is the exact root rounded once; a quiet NaN, plus infinity and both zeros
are returned unchanged, and a negative operand that is no zero is invalid (40_kernel_and_protocol.md R148). -/
def Obligations.SquareRootRoundsOnce : Prop :=
  (∀ (k : KMode) (s : Bool) (m : Nat) (e : Int),
    let invalid := (Val.nan true Fmt.ext.defaultNan, KFlags.invalidOnly)
    kSqrt k (.nan s m) = (.nan s m, KFlags.empty) ∧ kSqrt k (.zero s) = (.zero s, KFlags.empty) ∧
    kSqrt k (.inf false) = (.inf false, KFlags.empty) ∧ kSqrt k (.inf true) = invalid ∧
    kSqrt k (.fin true m e) = invalid) ∧
  ∀ (k : KMode) (m : Nat) (e : Int), m ≠ 0 → m < 2 ^ 64 →
    IsRounded .ext k.rm false (Real.sqrt (m * (2 : ℝ) ^ e)) (kSqrt k (.fin false m e))

/-- The IEEE remainder of finite non-zero operands is exact, by the quotient rounded to nearest even, and raises no flag;
a zero has the sign of the dividend. An infinite dividend or a zero divisor is invalid, an infinite divisor and a zero
dividend give the dividend; with a NaN the result is the NaN of R151 (40_kernel_and_protocol.md R150, R151). -/
def Obligations.RemainderIsExact : Prop :=
  (∀ (k : KMode) (s t : Bool) (m : Nat) (e : Int),
    let num := Val.fin t m e
    let invalid := (Val.nan true Fmt.ext.defaultNan, KFlags.invalidOnly)
    (∀ v ∈ [Val.zero t, .inf t, num], kRem k (.inf s) v = invalid ∧ kRem k v (.zero s) = invalid) ∧
    (∀ v ∈ [Val.zero t, num], kRem k v (.inf s) = (v, KFlags.empty)) ∧
    kRem k (.zero s) num = (.zero s, KFlags.empty)) ∧
  (∀ k : KMode,
    (k.nanSelect = .largerSignificand → ∀ (s t : Bool) (m n : Nat),
      (∀ v : Val, v.isNan = false → kRem k (.nan s m) v = (.nan s m, KFlags.empty) ∧
        kRem k v (.nan s m) = (.nan s m, KFlags.empty)) ∧
      kRem k (.nan s m) (.nan t n) =
        (if n < m then .nan s m else if m < n then .nan t n else .nan (s && t) m, KFlags.empty)) ∧
    (k.nanSelect = .anyQuiet → ∀ a b : Val, a.isNan = true ∨ b.isNan = true →
      ∃ (s : Bool) (sig : Nat), sig < 2 ^ 64 ∧ kRem k a b = (.nan s (sig ||| Fmt.ext.defaultNan), KFlags.empty))) ∧
  ∀ (k : KMode) (s t : Bool) (m n : Nat) (e g : Int), m ≠ 0 → n ≠ 0 →
    let a : ℝ := m * (2 : ℝ) ^ e
    let b : ℝ := n * (2 : ℝ) ^ g
    let r := kRem k (.fin s m e) (.fin t n g)
    r.2 = KFlags.empty ∧ ∃ q : ℤ, IsRint .rn false (a / b) q ∧
      (q * b < a → r.1.IsMagnitude s (a - q * b)) ∧
      (a < q * b → r.1.IsMagnitude (!s) (q * b - a)) ∧
      (a = q * b → r.1 = .zero s)

/-- The partial remainder of `FPREM` on finite non-zero operands: the truncated quotient when the exponents differ by less
than 64, else one reduction by the divisor scaled by `2^(d-63)`; the result is exact, with the sign of ST(0)
(44_misc_arith.md R337). -/
def Obligations.PartialRemainderIsR337 : Prop :=
  ∀ (a b : Fx80) (s : State) (x y : ℝ) (la lb : ℤ), a.isUnsupported = false → b.isUnsupported = false →
    a.isFinite = true → b.isFinite = true → a.isZero = false → b.isZero = false →
    fxIsAbs a x → fxIsAbs b y → (2 : ℝ) ^ la ≤ x → x < (2 : ℝ) ^ (la + 1) → (2 : ℝ) ^ lb ≤ y →
    y < (2 : ℝ) ^ (lb + 1) →
    ∃ (r : Fx80) (q : ℕ), r.sign = a.sign ∧
      (la - lb < 64 → premOf a b s = ((r, .complete q), s) ∧ (q : ℝ) ≤ x / y ∧ x / y < q + 1 ∧
        fxIsAbs r (x - q * y)) ∧
      (64 ≤ la - lb → premOf a b s = ((r, .incomplete), s) ∧ (q : ℝ) ≤ x / (y * (2 : ℝ) ^ (la - lb - 63)) ∧
        x / (y * (2 : ℝ) ^ (la - lb - 63)) < q + 1 ∧ fxIsAbs r (x - q * (y * (2 : ℝ) ^ (la - lb - 63))))

/-- The canonical encoding of a value that the extended format holds exactly, however it is written: `n * 2^k * 2^e` with
`n` below `2^64` (40_kernel_and_protocol.md R133). -/
def Obligations.ExtendedEncodingIsExact : Prop :=
  ∀ (s : Bool) (n k : Nat) (e : Int), n ≠ 0 → n < 2 ^ 64 → -16445 ≤ e + k → (n.log2 : Int) + k + e ≤ 16383 →
    let v := packExt (.fin s (n * 2 ^ k) e)
    fxIsAbs v (n * (2 : ℝ) ^ (e + k)) ∧ v.sign = s ∧ v.isFinite = true ∧ v.isUnsupported = false ∧
      (v.exp = 0#15 → v.j = false)

/-- An integer converted has its value and sign (40_kernel_and_protocol.md R154), and stored again in the same width is the
same integer, without a flag, whatever the rounding mode (41_codecs.md R197, R198). Digit `k` of a packed-BCD image is the
nibble `k` of `low`, and for 16 and 17 of `high`; the sign is bit 15 of `high`; bits 14 to 8 are written 0 and not read,
and a nibble above 9 counts with its value (R205 to R207). The image of a sign and an 18-digit number decodes to that
number with that sign, zero included (R208). -/
def Obligations.IntegerRoundTrip : Prop :=
  (∀ n : Int, n.natAbs < 2 ^ 64 → fxIsAbs (kFromInt n) n.natAbs ∧ (kFromInt n).sign = decide (n < 0)) ∧
  (∀ s : State,
    (∀ w : BitVec 16, encInt 16 (decInt w) s = (w, s)) ∧ (∀ w : BitVec 32, encInt 32 (decInt w) s = (w, s)) ∧
    (∀ w : BitVec 64, encInt 64 (decInt w) s = (w, s))) ∧
  (∀ (s : Bool) (n : Nat), n < 10 ^ 18 →
    let v := encBcd s n
    (∀ k < 16, v.low.toNat / 16 ^ k % 16 = n / 10 ^ k % 10) ∧ v.high.toNat % 16 = n / 10 ^ 16 % 10 ∧
      v.high.toNat / 16 % 16 = n / 10 ^ 17 % 10 ∧ v.high.extractLsb' 8 7 = 0#7 ∧ v.sign = s) ∧
  (∀ v : Fx80,
    let n := ∑ k ∈ Finset.range 16, v.low.toNat / 16 ^ k % 16 * 10 ^ k + v.high.toNat % 16 * 10 ^ 16 +
      v.high.toNat / 16 % 16 * 10 ^ 17
    decBcd v = packExt (if n = 0 then .zero v.sign else .fin v.sign n 0)) ∧
  ∀ (s : Bool) (n : Nat), n < 10 ^ 18 → decBcd (encBcd s n) = packExt (if n = 0 then .zero s else .fin s n 0)

/-- A binary32 or binary64 number that is not a NaN is the same after widening and narrowing, without a flag, in every
rounding mode. Narrowing rounds every other finite value once under the rounding mode, keeps zeros and infinities, and
gives the quiet NaN of R152; widening is exact and gives the NaN of R153 (40_kernel_and_protocol.md R152, R153). -/
def Obligations.NarrowFormatsRoundTrip : Prop :=
  (∀ rm : Rm,
    (∀ w : BitVec 32, (unpackF32 w).isNan = false → kToF32 rm (kFromF32 w) = (w, KFlags.empty)) ∧
    (∀ w : BitVec 64, (unpackF64 w).isNan = false → kToF64 rm (kFromF64 w) = (w, KFlags.empty))) ∧
  (∀ (rm : Rm) (a : Fx80) (x : ℝ), a.isUnsupported = false →
    (a.isFinite = true → a.isZero = false → fxIsAbs a x →
      (∀ f ∈ [Fmt.f32, .f64], IsRounded f rm a.sign x (narrow f rm a)) ∧
      IsRounded .f32 rm a.sign x (unpackF32 (kToF32 rm a).1, (kToF32 rm a).2) ∧
      IsRounded .f64 rm a.sign x (unpackF64 (kToF64 rm a).1, (kToF64 rm a).2)) ∧
    (let s32 := if a.sign then 0x80000000#32 else 0#32
    let s64 := if a.sign then 0x8000000000000000#64 else 0#64
    (a.isZero = true → kToF32 rm a = (s32, KFlags.empty) ∧ kToF64 rm a = (s64, KFlags.empty) ∧
      ∀ f : Fmt, narrow f rm a = (.zero a.sign, KFlags.empty)) ∧
    (a.isInf = true → kToF32 rm a = (s32 ||| 0x7F800000#32, KFlags.empty) ∧
      kToF64 rm a = (s64 ||| 0x7FF0000000000000#64, KFlags.empty) ∧
      ∀ f : Fmt, narrow f rm a = (.inf a.sign, KFlags.empty)) ∧
    (a.isNan = true →
      kToF32 rm a = (s32 ||| 0x7FC00000#32 ||| (a.low.extractLsb' 40 23).setWidth 32, KFlags.empty) ∧
      kToF64 rm a = (s64 ||| 0x7FF8000000000000#64 ||| (a.low.extractLsb' 11 52).setWidth 64, KFlags.empty) ∧
      narrow .f32 rm a = (unpackF32 (kToF32 rm a).1, KFlags.empty) ∧
      narrow .f64 rm a = (unpackF64 (kToF64 rm a).1, KFlags.empty)))) ∧
  (∀ (w : BitVec 32) (x : ℝ),
    let c := (w.extractLsb' 23 8).toNat
    let frac := w.extractLsb' 0 23
    let high : Word := if w.getLsbD 31 then 0xFFFF#16 else 0x7FFF#16
    (c ≠ 255 → x = ((if c = 0 then 0 else 2 ^ 23) + frac.toNat) * (2 : ℝ) ^ ((max c 1 : Nat) - 150 : ℤ) →
      (unpackF32 w).IsMagnitude (w.getLsbD 31) x ∧ fxIsAbs (kFromF32 w) x ∧
      (kFromF32 w).sign = w.getLsbD 31 ∧ (kFromF32 w).isUnsupported = false) ∧
    (c = 255 → frac = 0#23 → kFromF32 w = ⟨high, 0x8000000000000000#64⟩) ∧
    (c = 255 → frac ≠ 0#23 → kFromF32 w = ⟨high, 0xC000000000000000#64 ||| (frac.setWidth 64 <<< 40)⟩)) ∧
  ∀ (w : BitVec 64) (x : ℝ),
    let c := (w.extractLsb' 52 11).toNat
    let frac := w.extractLsb' 0 52
    let high : Word := if w.getLsbD 63 then 0xFFFF#16 else 0x7FFF#16
    (c ≠ 2047 → x = ((if c = 0 then 0 else 2 ^ 52) + frac.toNat) * (2 : ℝ) ^ ((max c 1 : Nat) - 1075 : ℤ) →
      (unpackF64 w).IsMagnitude (w.getLsbD 63) x ∧ fxIsAbs (kFromF64 w) x ∧
      (kFromF64 w).sign = w.getLsbD 63 ∧ (kFromF64 w).isUnsupported = false) ∧
    (c = 2047 → frac = 0#52 → kFromF64 w = ⟨high, 0x8000000000000000#64⟩) ∧
    (c = 2047 → frac ≠ 0#52 → kFromF64 w = ⟨high, 0xC000000000000000#64 ||| (frac.setWidth 64 <<< 11)⟩)

/-- The special values of the transcendental functions (46_transcendental.md R401), every entry of its table: zeros,
infinities, units, the powers of two for the logarithm, negative numbers for the logarithms, the results of `TRANS_2XM1`
above the binary64 range (a binary64 operand of 1024 or more). `s` is the sign of a zero, an infinity or a number. -/
def Obligations.TranscendentalSpecialValues : Prop :=
  ∀ (x : BitVec 64) (s : Bool),
    let z := d64WithSign s d64Zero
    let inf := d64WithSign s d64Inf
    let minusZero := d64WithSign true d64Zero
    (trans2xm1 z = z ∧ trans2xm1 d64Inf = d64Inf ∧ trans2xm1 d64MinusInf = d64MinusOne ∧ trans2xm1 d64One = d64One ∧
      ∀ m e, unpackF64 x = .fin false m e → 1024 ≤ (m : ℝ) * (2 : ℝ) ^ e → trans2xm1 x = d64Inf) ∧
    (transLog2 z = d64MinusInf ∧ transLog2 d64Inf = d64Inf ∧ transLog2 d64One = d64Zero ∧
      (x.getLsbD 63 = true → (unpackF64 x).isNan = false → x ≠ minusZero → (unpackF64 (transLog2 x)).isNan = true) ∧
      ∀ (m : Nat) (e k : Int), unpackF64 x = .fin false m e → (m : ℝ) * (2 : ℝ) ^ e = (2 : ℝ) ^ k →
        (unpackF64 (transLog2 x)).IsMagnitude (decide (k < 0)) |(k : ℝ)|) ∧
    (transLog2p1 z = z ∧ transLog2p1 d64MinusOne = d64MinusInf ∧ transLog2p1 d64Inf = d64Inf ∧
      transLog2p1 d64One = d64One ∧
      (d64MinusOne < x → (unpackF64 x).isNan = false → (unpackF64 (transLog2p1 x)).isNan = true)) ∧
    (transSin z = z ∧ transTan z = z ∧ transCos z = d64One ∧ (unpackF64 (transSin inf)).isNan = true ∧
      (unpackF64 (transTan inf)).isNan = true ∧ (unpackF64 (transCos inf)).isNan = true) ∧
    (transAtan2 z d64Zero = z ∧ transAtan2 z minusZero = d64WithSign s d64Pi ∧
      transAtan2 z d64Inf = z ∧ transAtan2 z d64MinusInf = d64WithSign s d64Pi ∧
      transAtan2 inf d64Inf = d64WithSign s d64QuarterPi ∧ transAtan2 inf d64MinusInf = d64WithSign s d64ThreeQuarterPi ∧
      transAtan2 inf d64Zero = d64WithSign s d64HalfPi ∧ transAtan2 inf minusZero = d64WithSign s d64HalfPi ∧
      (∀ t m e, unpackF64 x = .fin t m e → (transAtan2 z x = if t then d64WithSign s d64Pi else z) ∧
        transAtan2 inf x = d64WithSign s d64HalfPi) ∧
      ∀ m e, unpackF64 x = .fin s m e →
        transAtan2 x d64Inf = z ∧ transAtan2 x d64MinusInf = d64WithSign s d64Pi ∧
        transAtan2 x d64Zero = d64WithSign s d64HalfPi ∧ transAtan2 x minusZero = d64WithSign s d64HalfPi)

/-! ## Loads -/

/-- The converting loads: the value of the memory operand, or INDEF with IE for a signaling NaN or a denormal image
(41_codecs.md R191 to R193) and with SF, IE and C1 on a full stack, is pushed with its tag by inspection (42_load_store.md
R220 to R222, R225 to R227); so is the image of an 80-bit load, verbatim and unscreened, or the packed-BCD number (R223,
R228). An operand that crosses 0xFFFFFFFF wraps, the model's choice (notes/assumptions/14.md). -/
def Obligations.LoadPushesOperand : Prop :=
  (∀ r ∈ loadRows, ∀ (m : MemOperand) (s : State), s.fx = KFlags.empty → s.readable m r.2.bytes →
    let w := s.mem.readLE r.2.bytes m.ea
    let bad := r.2.signals w || r.2.tiny w
    let full := !s.isEmpty 7
    let v := if bad || full then indef else r.2.value w
    let sw := if bad then invalidated s.sw else s.sw
    settles (r.1 m) s (if full then overflowed sw else sw) fun u => pushed v (tagOf v) u s) ∧
  ∀ (m : MemOperand) (s : State), s.fx = KFlags.empty → s.readable80 m →
    let full := !s.isEmpty 7
    let sw := if full then overflowed s.sw else s.sw
    let image := s.mem.read80 m.ea
    let v := if full then indef else image
    let d := if full then indef else decBcd image
    settles (.fldM80real m) s sw (fun u => pushed v (tagOf v) u s) ∧
    settles (.fbld m) s sw (fun u => pushed d (tagOf d) u s)

/-- `FLD ST(i)`: the register unchecked, INDEF for an EMPTY one or a full stack, the underflow found before the overflow
(42_load_store.md R224). -/
def Obligations.FldStiDuplicates : Prop :=
  ∀ (i : Slot) (s : State), s.fx = KFlags.empty →
    let full := !s.isEmpty 7
    let v := if full || s.isEmpty i then indef else s.st i
    let sw := if s.isEmpty i then underflowed s.sw else s.sw
    settles (.fldSti i) s (if full then overflowed sw else sw) fun u => pushed v (tagOf v) u s

/-- The seven constants, in the variant CW.RC selects, with their own tags (42_load_store.md R230 to R239). -/
def Obligations.ConstantLoads : Prop :=
  ∀ s : State, s.fx = KFlags.empty → ∀ r ∈ constRows (rcOf s.cw) s.params.l2tNearestIncremented,
    let full := !s.isEmpty 7
    settles r.1 s (if full then overflowed s.sw else s.sw) fun u =>
      if full then pushed indef tagSpecial u s else pushed r.2.1 r.2.2 u s

/-! ## Stores -/

/-- The narrowing stores write the rounded image at the operand and pop if they pop; memory outside the image is as
before (42_load_store.md R240 to R244). The operand is not an unsupported encoding. -/
def Obligations.RealStoresWriteRoundedImage : Prop :=
  ∀ (m : MemOperand) (s : State), s.fx = KFlags.empty → (s.isEmpty 0 = true ∨ (s.st 0).isUnsupported = false) →
    (s.writable m 4 →
      ∀ r ∈ [(Instr.fstM32real m, false), (.fstpM32real m, true)],
        settles r.1 s (real32Out s).2 fun u =>
          poppedIf r.2 u { s with mem := s.mem.writeLE 4 m.ea (real32Out s).1.toNat }) ∧
    (s.writable m 8 →
      ∀ r ∈ [(Instr.fstM64real m, false), (.fstpM64real m, true)],
        settles r.1 s (real64Out s).2 fun u =>
          poppedIf r.2 u { s with mem := s.mem.writeLE 8 m.ea (real64Out s).1.toNat })

/-- `FSTP m80real` writes ST(0) verbatim and pops; `FST ST(i)` and `FSTP ST(i)` copy it unchecked to a register whose tag
is not examined (42_load_store.md R245 to R247). -/
def Obligations.VerbatimStores : Prop :=
  ∀ (m : MemOperand) (i : Slot) (s : State), s.fx = KFlags.empty →
    let v := if s.isEmpty 0 then indef else s.st 0
    let sw := if s.isEmpty 0 then underflowed s.sw else s.sw
    (s.writable80 m →
      settles (.fstpM80real m) s sw fun u => poppedIf true u { s with mem := s.mem.write80 m.ea v }) ∧
    (settles (.fstSti i) s sw fun u => written i v u s) ∧
    (settles (.fstpSti i) s sw fun u => poppedIf true u (written i v u s))

/-- The integer stores write the rounded integer or the integer indefinite and pop if they pop (42_load_store.md R248 to
R253); `FBSTP` writes the truncated 18-digit image or the packed-BCD indefinite and pops (R254). The operand is not an
unsupported encoding. -/
def Obligations.IntegerStoresWriteImage : Prop :=
  ∀ (m : MemOperand) (s : State), s.fx = KFlags.empty → (s.isEmpty 0 = true ∨ (s.st 0).isUnsupported = false) →
    (∀ r ∈ intStoreRows, s.writable m r.2.1.bytes →
      settles (r.1 m) s (intOut r.2.1.bits s).2 fun u =>
        poppedIf r.2.2 u { s with mem := s.mem.writeLE r.2.1.bytes m.ea (intOut r.2.1.bits s).1.toNat }) ∧
    (s.writable80 m →
      settles (.fbstp m) s (bcdOut s).2 fun u => poppedIf true u { s with mem := s.mem.write80 m.ea (bcdOut s).1 })

/-! ## The arithmetic family -/

/-- The 24 arithmetic rows with a memory operand: ST(0) receives the result of the ordered pair in the format PC selects;
INDEF with IE for a signaling NaN or an invalid pair of infinities, and with SF and IE on an EMPTY ST(0)
(43_arithmetic.md R270 to R298; 40_kernel_and_protocol.md R156). The operand is supported and PC is not 01. -/
def Obligations.ArithmeticWithMemory : Prop :=
  ∀ r ∈ arithMemRows, ∀ (m : MemOperand) (s : State), s.fx = KFlags.empty → s.readable m r.2.2.bytes →
    (s.isEmpty 0 = true ∨ ((s.st 0).isUnsupported = false ∧ pcOf s.cw ≠ 1#2)) →
    let w := s.mem.readLE r.2.2.bytes m.ea
    let snan := r.2.2.signals w
    let sw := if snan then invalidated s.sw else s.sw
    let out := if s.isEmpty 0 then (indef, underflowed sw) else if snan then (indef, sw)
      else arithOut r.2.1 (s.st 0) (r.2.2.value w) s sw
    settles (r.1 m) s out.2 fun u => written 0 out.1 u s

/-- The 18 arithmetic rows on two stack operands: the destination receives the result of the ordered pair in the format PC
selects, then the popping forms pop (43_arithmetic.md R270 to R274, R299 to R316; 40_kernel_and_protocol.md R156). The
operands are supported and PC is not 01. -/
def Obligations.ArithmeticOnStack : Prop :=
  ∀ r ∈ arithRegRows, ∀ (i : Slot) (s : State), s.fx = KFlags.empty →
    (s.isEmpty 0 = true ∨ s.isEmpty i = true ∨
      ((s.st 0).isUnsupported = false ∧ (s.st i).isUnsupported = false ∧ pcOf s.cw ≠ 1#2)) →
    let dst := r.2.2.dst i
    let out := if s.isEmpty 0 || s.isEmpty i then (indef, underflowed s.sw)
      else arithOut r.2.1 (s.st dst) (s.st (r.2.2.src i)) s s.sw
    settles (r.1 i) s out.2 fun u => poppedIf (r.2.2 == .popping) u (written dst out.1 u s)

/-- Where the spec leaves the result open, an unsupported operand or PC = 01, the arithmetic still runs, with a memory
operand and on the stack: two free values are used, and nothing but the destination, its tag, the top of a popping form,
the latches and ES can change (40_kernel_and_protocol.md R136, R156; notes/assumptions/8.md, 9.md). -/
def Obligations.OpenArithmeticRuns : Prop :=
  (∀ r ∈ arithMemRows, ∀ (m : MemOperand) (s : State), s.fx = KFlags.empty → s.readable m r.2.2.bytes →
    let w := s.mem.readLE r.2.2.bytes m.ea
    s.isEmpty 0 = false → r.2.2.signals w = false →
    ((s.st 0).isUnsupported = true ∨ (pcOf s.cw = 1#2 ∧ precheck r.2.1.op (s.st 0) (r.2.2.value w) = false)) →
    ∃ t, exec (r.1 m) s = .next t ∧ t.free = s.free + 2 ∧
      t.cw = s.cw ∧ t.mem = s.mem ∧ t.ax = s.ax ∧ t.zf = s.zf ∧ t.pf = s.pf ∧ t.cf = s.cf ∧ t.fx = KFlags.empty ∧
      t.rm = s.rm ∧ t.fip = s.fip ∧ t.fdp = s.fdp ∧ t.fop = s.fop ∧ t.hostFault = s.hostFault ∧
      t.sw &&& 0xFF00#16 = s.sw &&& 0xFF00#16 ∧
      ∀ p : Slot, p ≠ s.top → t.reg p = s.reg p ∧ tagOfSlot t.tw p = tagOfSlot s.tw p) ∧
  ∀ r ∈ arithRegRows, ∀ (i : Slot) (s : State), s.fx = KFlags.empty → s.isEmpty 0 = false → s.isEmpty i = false →
    ((s.st 0).isUnsupported = true ∨ (s.st i).isUnsupported = true ∨
      (pcOf s.cw = 1#2 ∧ precheck r.2.1.op (s.st 0) (s.st i) = false)) →
    ∃ t, exec (r.1 i) s = .next t ∧ t.free = s.free + 2 ∧
      t.cw = s.cw ∧ t.mem = s.mem ∧ t.ax = s.ax ∧ t.zf = s.zf ∧ t.pf = s.pf ∧ t.cf = s.cf ∧ t.fx = KFlags.empty ∧
      t.rm = s.rm ∧ t.fip = s.fip ∧ t.fdp = s.fdp ∧ t.fop = s.fop ∧
      t.sw &&& 0xC700#16 = s.sw &&& 0xC700#16 ∧ (r.2.2 ≠ .popping → t.top = s.top) ∧
      (∀ p : Slot, p ≠ s.top + r.2.2.dst i → t.reg p = s.reg p) ∧
      (∀ p : Slot, p ≠ s.top + r.2.2.dst i → (r.2.2 = .popping → p ≠ s.top) → tagOfSlot t.tw p = tagOfSlot s.tw p)

/-! ## Miscellaneous arithmetic -/

/-- `FCHS`, `FABS`, `FSQRT` and `FRNDINT` on ST(0) (44_misc_arith.md R330 to R334). For the last two the operand is not an
unsupported encoding. -/
def Obligations.UnaryResults : Prop :=
  ∀ s : State, s.fx = KFlags.empty →
    let a := s.st 0
    let e := s.isEmpty 0
    let sw := if e then underflowed s.sw else s.sw
    let neg := if e then indef else ⟨a.high ^^^ 0x8000#16, a.low⟩
    let abs := if e then indef else ⟨a.high &&& 0x7FFF#16, a.low⟩
    (settles .fchs s sw fun u => written 0 neg u s) ∧
    (settles .fabs s sw fun u => written 0 abs u s) ∧
    (e = true ∨ a.isUnsupported = false →
      let root := if e then (indef, sw)
        else if a.isSnan ∨ (a.sign = true ∧ a.isZero = false) ∨ a.isDenormal then (indef, invalidated s.sw)
        else (packExt (kSqrt s.kmode (unpackExt a)).1, s.sw ||| latchMask (kSqrt s.kmode (unpackExt a)).2)
      let int := if e then (indef, sw) else if a.isSnan then (indef, invalidated s.sw)
        else ((kRint s.rm a).1, s.sw ||| latchMask (kRint s.rm a).2)
      (settles .fsqrt s root.2 fun u => written 0 root.1 u s) ∧
      (settles .frndint s int.2 fun u => written 0 int.1 u s))

/-- The integer of a finite value is the value cut toward zero (44_misc_arith.md R335). `FSCALE` on a finite ST(0) that is
no zero multiplies it by two to the truncated ST(1), rounded once; on infinities, zeros or NaNs it gives the table of
R335. ST(1) is not changed. The exponent is clamped to 65536 in magnitude, which is the model's reading
(notes/assumptions/19.md) of R335's "a model may clamp". -/
def Obligations.ScaleResult : Prop :=
  (∀ (b : Fx80) (x : ℝ), b.isUnsupported = false → b.isFinite = true → fxIsAbs b x →
    ∃ q : ℕ, (q : ℝ) ≤ x ∧ x < q + 1 ∧ integerOf b = if b.sign then -(q : ℤ) else q) ∧
  ∀ s : State, s.fx = KFlags.empty →
    let a := s.st 0
    let b := s.st 1
    let e := s.isEmpty 0 || s.isEmpty 1
    (e = true ∨ (a.isUnsupported = false ∧ b.isUnsupported = false)) →
    let n := (max (-65536) (min 65536 (integerOf b)) : Int)
    let out : Fx80 × Word :=
      if e then (indef, underflowed s.sw)
      else if a.isSnan ∨ b.isSnan then (indef, invalidated s.sw)
      else if a.isNan ∨ b.isNan then
        (packExt (selectNan .ext s.params.nanSelect (unpackExt a) (unpackExt b)), s.sw)
      else if b = pinf ∧ a.isZero then (indef, invalidated s.sw)
      else if b = pinf then (⟨(a.high &&& 0x8000#16) ||| 0x7FFF#16, 0x8000000000000000#64⟩, s.sw)
      else if b = ninf ∧ a.isInf then (indef, invalidated s.sw)
      else if b = ninf then (⟨a.high &&& 0x8000#16, 0#64⟩, s.sw)
      else if a.isInf ∨ a.isZero then (a, s.sw)
      else
        let x := roundF .ext s.rm a.sign a.low.toNat 1 ((max a.exp.toNat 1 : Nat) - 16446 + n)
        (packExt x.1, s.sw ||| latchMask x.2)
    settles .fscale s out.2 fun u => written 0 out.1 u s

/-- `FXTRACT` on a supported operand: the exponent in place, then the significand pushed; ZE with minus infinity and +0
for a zero; INDEF twice for a stack fault (44_misc_arith.md R336). On a full stack the latches of the pre-checks stand too,
by the order of R336's pseudocode, which is the model's choice against the general order of 40_kernel_and_protocol.md R170
and 60_exceptions.md R508 (notes/assumptions/12.md). -/
def Obligations.ExtractResult : Prop :=
  ∀ s : State, s.fx = KFlags.empty →
    let a := s.st 0
    let e := s.isEmpty 0
    let full := !s.isEmpty 7
    (e = true ∨ a.isUnsupported = false) →
    let out : (Fx80 × Fx80) × Word :=
      if e then ((indef, indef), underflowed s.sw)
      else if a.isSnan then ((indef, indef), invalidated s.sw)
      else if a.isNan then ((a, a), s.sw)
      else if a.isInf then ((pinf, a), s.sw)
      else if a.isZero then ((ninf, pzero), s.sw ||| 0x0004#16)
      else ((kFromInt ((a.exp.toNat : Int) - 16383), ⟨(a.high &&& 0x8000#16) ||| 0x3FFF#16, a.low⟩), s.sw)
    let p := if full then (indef, indef) else out.1
    settles .fxtract s (if full then overflowed out.2 else out.2) fun u =>
      pushed p.2 (tagOf p.2) u (written 0 p.1 u s)

/-- `FPREM` on supported operands: the result and the codes that go with it, C1, C3, C0 the three low bits of a complete
quotient with C2 clear, C2 set and the others kept for an incomplete step, all kept otherwise (44_misc_arith.md R337). -/
def Obligations.PremResult : Prop :=
  ∀ s : State, s.fx = KFlags.empty →
    let a := s.st 0
    let b := s.st 1
    let e := s.isEmpty 0 || s.isEmpty 1
    (e = true ∨ (a.isUnsupported = false ∧ b.isUnsupported = false)) →
    let codes (c : RemCodes) (u : Word) : Word := match c with
      | .complete q => (u &&& 0xB8FF#16) ||| (if q.testBit 0 then 0x0200#16 else 0#16) |||
          (if q.testBit 1 then 0x4000#16 else 0#16) ||| (if q.testBit 2 then 0x0100#16 else 0#16)
      | .incomplete => u ||| 0x0400#16
      | .none => u
      | .free _ => u
    let out : (Fx80 × RemCodes) × Word :=
      if e then ((indef, .none), underflowed s.sw)
      else if a.isSnan ∨ b.isSnan then ((indef, .none), invalidated s.sw)
      else if a.isNan ∨ b.isNan then
        ((packExt (selectNan .ext s.params.nanSelect (unpackExt a) (unpackExt b)), .none), s.sw)
      else if a.isInf ∨ b.isZero then ((indef, .none), invalidated s.sw)
      else if b.isInf ∨ a.isZero then ((a, .complete 0), s.sw)
      else ((premOf a b s).1, s.sw)
    settles .fprem s out.2 fun u => written 0 out.1.1 (codes out.1.2 u) s

/-- `FPREM1` on supported operands: ST(0) receives the IEEE remainder; C0 to C3 are left open, so the statement holds of
some value of them; they are kept on a stack underflow but for C1 (44_misc_arith.md R338; notes/assumptions/10.md). -/
def Obligations.Prem1Result : Prop :=
  ∀ s : State, s.fx = KFlags.empty →
    let a := s.st 0
    let b := s.st 1
    (s.isEmpty 0 = true ∨ s.isEmpty 1 = true → settles .fprem1 s (underflowed s.sw) fun u => written 0 indef u s) ∧
    (s.isEmpty 0 = false → s.isEmpty 1 = false → a.isUnsupported = false → b.isUnsupported = false →
      let k := kRem s.kmode (unpackExt a) (unpackExt b)
      let out : Fx80 × Word := if a.isSnan ∨ b.isSnan then (indef, invalidated s.sw)
        else (packExt k.1, s.sw ||| latchMask k.2)
      (pendingOf s.cw out.2 = 0#6 → ∃ w : Word, w &&& 0xB8FF#16 = out.2 &&& 0xB87F#16 ∧
        exec .fprem1 s = .next (charged .fprem1 { written 0 out.1 w s with free := s.free + 1 })) ∧
      (pendingOf s.cw out.2 ≠ 0#6 → exec .fprem1 s = .next (afterTrap .fprem1 (suppressed s out.2))))

/-! ## Compares, examine, conditional moves -/

/-- The eight compares with a memory operand: the row of the truth table in C3, C2, C0, C1 clear, then the pops; an EMPTY
ST(0) and a signaling NaN in memory compare unordered (45_compare.md R350 to R356, R363 to R366). -/
def Obligations.ComparesWithMemory : Prop :=
  ∀ r ∈ cmpMemRows, ∀ (m : MemOperand) (s : State), s.fx = KFlags.empty → s.readable m r.2.1.bytes →
    (s.isEmpty 0 = true ∨ (s.st 0).isUnsupported = false) →
    let w := s.mem.readLE r.2.1.bytes m.ea
    let snan := r.2.1.signals w
    let sw := if snan then invalidated s.sw else s.sw
    let out := if s.isEmpty 0 then (.unordered, underflowed sw) else if snan then (.unordered, sw)
      else relOut .ordered (s.st 0) (r.2.1.value w) sw
    settles (r.1 m) s out.2 fun u => poppedTimes r.2.2 (codesWord out.1 u) s

/-- The relation of two operands that are no NaNs is the order of their values, an infinity beyond every number and the two
zeros equal (45_compare.md R352); the compares of two stack operands put it into the condition codes (R350, R351, R357 to
R362), and `FTST` compares ST(0) with +0 (R371). -/
def Obligations.ComparesOnStack : Prop :=
  (∀ (kind : CmpKind) (a b : Fx80) (sw : Word), a.isUnsupported = false → b.isUnsupported = false → a.isNan = false →
    b.isNan = false → IsOrder a b (relOut kind a b sw).1 ∧ (relOut kind a b sw).2 = sw) ∧
  ∀ (i : Slot) (s : State), s.fx = KFlags.empty →
    (∀ r ∈ cmpRegRows i,
      let j := r.2.2.1
      (s.isEmpty 0 = true ∨ s.isEmpty j = true ∨ ((s.st 0).isUnsupported = false ∧ (s.st j).isUnsupported = false)) →
      let out := if s.isEmpty 0 || s.isEmpty j then (.unordered, underflowed s.sw)
        else relOut r.2.1 (s.st 0) (s.st j) s.sw
      settles r.1 s out.2 fun u => poppedTimes r.2.2.2 (codesWord out.1 u) s) ∧
    (s.isEmpty 0 = true ∨ (s.st 0).isUnsupported = false →
      let out := if s.isEmpty 0 then (.unordered, underflowed s.sw)
        else relOut .ordered (s.st 0) ⟨0x0000#16, 0#64⟩ s.sw
      settles .ftst s out.2 fun u => { s with sw := codesWord out.1 u })

/-- The compares to the host flags: ZF, PF and CF take the row of the truth table and C0 to C3 are not written
(45_compare.md R350 to R352, R367 to R370). -/
def Obligations.ComparesToFlags : Prop :=
  ∀ (i : Slot) (s : State), s.fx = KFlags.empty → ∀ r ∈ cmpFlagRows i,
    (s.isEmpty 0 = true ∨ s.isEmpty i = true ∨ ((s.st 0).isUnsupported = false ∧ (s.st i).isUnsupported = false)) →
    let out := if s.isEmpty 0 || s.isEmpty i then (.unordered, underflowed s.sw)
      else relOut r.2.1 (s.st 0) (s.st i) s.sw
    settles r.1 s out.2 fun u => poppedIf r.2.2 u { s with
      zf := decide (out.1 = .equal ∨ out.1 = .unordered), pf := decide (out.1 = .unordered),
      cf := decide (out.1 = .less ∨ out.1 = .unordered) }

/-- `FXAM` writes the class of ST(0) in C3, C2, C0 and its stored sign in C1, and nothing else, whatever is pending
(45_compare.md R385, R386). -/
def Obligations.ExamineClassifies : Prop :=
  ∀ s : State,
    let v := s.st 0
    let e := v.high &&& 0x7FFF#16
    let cls : Word :=
      if s.isEmpty 0 then 0x4100#16
      else if e ≠ 0#16 ∧ v.low.getLsbD 63 = false then 0x0000#16
      else if e = 0x7FFF#16 ∧ v.low &&& 0x7FFFFFFFFFFFFFFF#64 ≠ 0#64 then 0x0100#16
      else if e = 0x7FFF#16 then 0x0500#16
      else if e = 0#16 ∧ v.low = 0#64 then 0x4000#16
      else if e = 0#16 then 0x4400#16
      else 0x0400#16
    exec .fxam s = .next (charged .fxam { s with
      sw := (s.sw &&& 0xB8FF#16) ||| cls ||| (if v.high.getLsbD 15 then 0x0200#16 else 0#16) })

/-- The conditional moves: under a true condition ST(i) is copied unchecked to ST(0), INDEF with SF and IE for an EMPTY
one; under a false one nothing happens (45_compare.md R390 to R398). -/
def Obligations.ConditionalMoves : Prop :=
  ∀ (i : Slot) (s : State), ∀ r ∈ cmovRows i s.cf s.zf s.pf,
    (r.2 = false → exec r.1 s = .next (charged r.1 s)) ∧
    (r.2 = true → s.fx = KFlags.empty →
      settles r.1 s (if s.isEmpty i then underflowed s.sw else s.sw) fun u =>
        written 0 (if s.isEmpty i then indef else s.st i) u s)

/-! ## Transcendentals -/

/-- `F2XM1`, `FSIN` and `FCOS` in place; the last two clear C2 (46_transcendental.md R400 to R403, R408, R409). The
operand is not an unsupported encoding. -/
def Obligations.TranscendentalsInPlace : Prop :=
  ∀ s : State, s.fx = KFlags.empty → (s.isEmpty 0 = true ∨ (s.st 0).isUnsupported = false) →
    ∀ r ∈ [(Instr.f2xm1, trans2xm1, 0xFFFF#16), (.fsin, transSin, 0xFBFF#16), (.fcos, transCos, 0xFBFF#16)],
      let out := if s.isEmpty 0 then (indef, underflowed s.sw) else transOut r.2.1 (s.st 0) s
      settles r.1 s out.2 fun u => written 0 out.1 (u &&& r.2.2) s

/-- `FYL2X`, `FYL2XP1` and `FPATAN`: the result replaces ST(1) and the top is popped; `FYL2X` of a zero or negative
operand is invalid (46_transcendental.md R400, R404, R405, R407). The operands are no unsupported encodings. The product
is the binary64 product rounded to nearest even, a NaN for zero times infinity, and raises no flag (R402). -/
def Obligations.TranscendentalsThatPop : Prop :=
  (∀ (y l : BitVec 64) (s t : Bool) (m n : Nat) (e g : Int),
    let a := unpackF64 y
    let b := unpackF64 l
    let p := unpackF64 (mulD y l)
    (a = .fin s m e → b = .fin t n g →
      ∃ fl, IsRounded .f64 .rn (s != t) ((m * (2 : ℝ) ^ e) * (n * (2 : ℝ) ^ g)) (p, fl)) ∧
    (a = .zero s → b = .inf t → p.isNan = true) ∧ (a = .inf s → b = .zero t → p.isNan = true) ∧
    (a = .inf s → b = .inf t ∨ b = .fin t n g → p = .inf (s != t)) ∧
    (a = .fin s m e → b = .inf t → p = .inf (s != t)) ∧
    (a = .zero s → b = .zero t ∨ b = .fin t n g → p = .zero (s != t)) ∧
    (a = .fin s m e → b = .zero t → p = .zero (s != t))) ∧
  ∀ s : State, s.fx = KFlags.empty →
    let a := s.st 0
    let b := s.st 1
    (s.isEmpty 0 = true ∨ s.isEmpty 1 = true ∨ (a.isUnsupported = false ∧ b.isUnsupported = false)) →
    let e := s.isEmpty 0 || s.isEmpty 1
    let fault := (indef, underflowed s.sw)
    let log := if e then fault
      else if a.isNan = false ∧ b.isNan = false ∧ (a.sign = true ∨ a.isZero = true) then (indef, invalidated s.sw)
      else transOut2 (fun x y => mulD y (transLog2 x)) a b s
    let log1 := if e then fault else transOut2 (fun x y => mulD y (transLog2p1 x)) a b s
    let angle := if e then fault else transOut2 (fun x y => transAtan2 y x) a b s
    (settles .fyl2x s log.2 fun u => poppedIf true u (written 1 log.1 u s)) ∧
    (settles .fyl2xp1 s log1.2 fun u => poppedIf true u (written 1 log1.1 u s)) ∧
    (settles .fpatan s angle.2 fun u => poppedIf true u (written 1 angle.1 u s))

/-- `FPTAN` and `FSINCOS` on a supported operand: the first result in place, the second pushed, C2 clear; `FPTAN` pushes
1.0, or INDEF where the narrowed operand is infinite (46_transcendental.md R400, R406, R410). On a full stack the flags of
the narrowing stand too, by the order of R400's pseudocode, which is the model's choice against the general order of
40_kernel_and_protocol.md R170 (notes/assumptions/12.md). -/
def Obligations.TranscendentalsThatPush : Prop :=
  ∀ s : State, s.fx = KFlags.empty → (s.isEmpty 0 = true ∨ (s.st 0).isUnsupported = false) →
    let a := s.st 0
    let full := !s.isEmpty 7
    let run (f : BitVec 64 → BitVec 64) : Fx80 × Word :=
      if s.isEmpty 0 then (indef, underflowed s.sw) else transOut f a s
    let tan := run transTan
    let tan2 := if s.isEmpty 0 ∨ a.isSnan then indef else if a.isNan then a
      else if (kToF64 s.rm a).1 &&& 0x7FFFFFFFFFFFFFFF#64 = d64Inf then indef else one
    let sin := run transSin
    let cos := run transCos
    let p := if full then (indef, indef) else (tan.1, tan2)
    let q := if full then (indef, indef) else (sin.1, cos.1)
    let sw := sin.2 ||| cos.2
    (settles .fptan s (if full then overflowed tan.2 else tan.2) fun u =>
      pushed p.2 (tagOf p.2) (u &&& 0xFBFF#16) (written 0 p.1 (u &&& 0xFBFF#16) s)) ∧
    (settles .fsincos s (if full then overflowed sw else sw) fun u =>
      pushed q.2 (tagOf q.2) (u &&& 0xFBFF#16) (written 0 q.1 (u &&& 0xFBFF#16) s))

/-! ## Control -/

/-- `FLDCW`, `FSTCW`, `FSTSW m16` and `FSTSW AX`: the word moved, RM following CW, and nothing else (47_control.md R421 to
R423, R431). -/
def Obligations.WordMoves : Prop :=
  ∀ (m : MemOperand) (s : State),
    (s.readable m 2 →
      let v := BitVec.ofNat 16 (s.mem.readLE 2 m.ea)
      exec (.fldcw m) s = .next (charged (.fldcw m) { s with cw := v, rm := rcTable (v.extractLsb' 10 2) })) ∧
    (s.writable m 2 →
      exec (.fstcw m) s = .next (charged (.fstcw m) { s with mem := s.mem.writeLE 2 m.ea s.cw.toNat }) ∧
      exec (.fstswM16 m) s = .next (charged (.fstswM16 m) { s with mem := s.mem.writeLE 2 m.ea s.sw.toNat })) ∧
    exec .fstswAx s = .next (charged .fstswAx { s with ax := s.sw })

/-- `FCLEX`, `FINIT`, `FNOP`, `FINCSTP`, `FDECSTP` and `FFREE ST(i)`, each in full whatever is pending (47_control.md R420,
R424 to R429). -/
def Obligations.PlainControl : Prop :=
  ∀ (i : Slot) (s : State),
    exec .fclex s = .next (charged .fclex { s with
      sw := s.sw &&& (if s.params.fclexClearsBusy then 0x7F00#16 else 0xFF00#16) }) ∧
    exec .finit s = .next (charged .finit { s with
      cw := 0x037F#16, rm := .rn, sw := 0x0000#16, tw := 0xFFFF#16, fip := 0, fdp := 0, fop := 0 }) ∧
    exec .fnop s = .next (charged .fnop s) ∧
    exec .fincstp s = .next (charged .fincstp { s with
      sw := (s.sw &&& 0xC7FF#16) ||| ((s.top + 1).setWidth 16 <<< 11) }) ∧
    exec .fdecstp s = .next (charged .fdecstp { s with
      sw := (s.sw &&& 0xC7FF#16) ||| ((s.top + 7).setWidth 16 <<< 11) }) ∧
    (∃ w : Word, exec (.ffree i) s = .next (charged (.ffree i) { s with tw := w }) ∧
      ∀ p : Slot, tagOfSlot w p = if p = s.top + i then 3#2 else tagOfSlot s.tw p)

/-- `FXCH ST(i)` exchanges values and tags, an EMPTY side becoming INDEF tagged SPECIAL; twice, it is the identity on the
registers and TW when both are occupied and nothing is pending (47_control.md R430). -/
def Obligations.ExchangeSwaps : Prop :=
  ∀ (i : Slot) (s : State), s.fx = KFlags.empty →
    (let va := if s.isEmpty 0 then (indef, tagSpecial) else (s.st 0, s.tag 0)
    let vb := if s.isEmpty i then (indef, tagSpecial) else (s.st i, s.tag i)
    settles (.fxch i) s (if s.isEmpty 0 || s.isEmpty i then underflowed s.sw else s.sw) fun u =>
      { s with sw := u,
               regs := (s.regs.set s.top.toNat vb.1).set (s.top + i).toNat va.1,
               tw := putTag (putTag s.tw s.top vb.2) (s.top + i) va.2 }) ∧
    (s.isEmpty 0 = false → s.isEmpty i = false → pendingOf s.cw s.sw = 0#6 →
      ∃ t u, exec (.fxch i) s = .next t ∧ exec (.fxch i) t = .next u ∧ u.regs = s.regs ∧ u.tw = s.tw)

/-! ## Environment -/

/-- `FSTENV` stores CW, SW and TW at the offsets of the layout and no other byte, and masks only where the parameter says
so; `FLDENV` installs the three words it reads and nothing else (48_environment.md R450 to R453). An item in memory has
its lowest byte at the lowest address (20_memory.md R72); addresses wrap at 2^32, the model's choice
(notes/assumptions/14.md). -/
def Obligations.EnvironmentWords : Prop :=
  (∀ (mem : Memory) (n v : Nat) (a : Addr), n ≤ 10 →
    mem.readLE n a = ∑ k ∈ Finset.range n, (mem.read (a + BitVec.ofNat 32 k)).toNat * 256 ^ k ∧
    (∀ k < n, (mem.writeLE n a v).read (a + BitVec.ofNat 32 k) = BitVec.ofNat 8 (v / 256 ^ k)) ∧
    ∀ b : Addr, inBytes a n b = false → (mem.writeLE n a v).read b = mem.read b) ∧
  ∀ (m : MemOperand) (s : State), s.guards = [] →
    let d : Addr := if s.opsize32 then 4 else 2
    (∃ mem cw rm, exec (.fstenv m) s = .next (charged (.fstenv m) { s with mem := mem, cw := cw, rm := rm }) ∧
      (s.params.fstenvMasks = false → cw = s.cw ∧ rm = s.rm) ∧
      (s.params.fstenvMasks = true → cw = s.cw ||| 0x003F#16 ∧ rm = rcTable (rcOf cw)) ∧
      mem.readLE 2 m.ea = s.cw.toNat ∧ mem.readLE 2 (m.ea + d) = s.sw.toNat ∧
      mem.readLE 2 (m.ea + 2 * d) = s.tw.toNat ∧
      ∀ a : Addr, isEnvWordByte s.opsize32 (a - m.ea).toNat = false → mem.read a = s.mem.read a) ∧
    ∀ cw : Word, cw = BitVec.ofNat 16 (s.mem.readLE 2 m.ea) →
      exec (.fldenv m) s = .next (charged (.fldenv m) { s with
        cw := cw, rm := rcTable (rcOf cw), sw := BitVec.ofNat 16 (s.mem.readLE 2 (m.ea + d)),
        tw := BitVec.ofNat 16 (s.mem.readLE 2 (m.ea + 2 * d)) })

/-- `FSAVE` stores the three words and the raw 80 bits of ST(0) to ST(7), EMPTY ones included, in architectural order after
the environment block, and no other byte; where the parameter says so it ends as `FINIT` does (48_environment.md R454,
R455). -/
def Obligations.SaveStoresImage : Prop :=
  ∀ (m : MemOperand) (s : State), s.guards = [] →
    let d : Addr := if s.opsize32 then 4 else 2
    let n : Nat := if s.opsize32 then 28 else 14
    ∃ mem,
      (s.params.fsaveReinit = false → exec (.fsave m) s = .next (charged (.fsave m) { s with mem := mem })) ∧
      (s.params.fsaveReinit = true → exec (.fsave m) s = .next (charged (.fsave m) { s with
        mem := mem, cw := 0x037F#16, rm := .rn, sw := 0x0000#16, tw := 0xFFFF#16, fip := 0, fdp := 0, fop := 0 })) ∧
      mem.readLE 2 m.ea = s.cw.toNat ∧ mem.readLE 2 (m.ea + d) = s.sw.toNat ∧
      mem.readLE 2 (m.ea + 2 * d) = s.tw.toNat ∧
      (∀ i : Slot, mem.read80 (m.ea + BitVec.ofNat 32 (n + 10 * i.toNat)) = s.st i) ∧
      ∀ a : Addr, (n + 80 ≤ (a - m.ea).toNat ∨
        ((a - m.ea).toNat < n ∧ isEnvWordByte s.opsize32 (a - m.ea).toNat = false)) → mem.read a = s.mem.read a

/-- `FRSTOR` installs the three words and the eight registers by the TOP it has just loaded, re-tagging by inspection the
slots whose loaded tag is not EMPTY, and changes nothing else (48_environment.md R456). -/
def Obligations.RestoreInstallsImage : Prop :=
  ∀ (m : MemOperand) (s : State), s.guards = [] →
    let d : Addr := if s.opsize32 then 4 else 2
    let n : Nat := if s.opsize32 then 28 else 14
    let cw := BitVec.ofNat 16 (s.mem.readLE 2 m.ea)
    let sw := BitVec.ofNat 16 (s.mem.readLE 2 (m.ea + d))
    let tw := BitVec.ofNat 16 (s.mem.readLE 2 (m.ea + 2 * d))
    ∃ regs tags, exec (.frstor m) s = .next (charged (.frstor m) { s with
        cw := cw, rm := rcTable (rcOf cw), sw := sw, tw := tags, regs := regs }) ∧
      ∀ i : Slot,
        let v := s.mem.read80 (m.ea + BitVec.ofNat 32 (n + 10 * i.toNat))
        let p := topOf sw + i
        regs[p.toNat] = v ∧ tagOfSlot tags p = if tagOfSlot tw p = 3#2 then 3#2 else tagOf v

/-- `FSAVE` then `FRSTOR` of the same image reproduces CW, SW and all eight registers, whatever the tags, and TW where every
tag that is not EMPTY agreed with its value; RM follows CW; `FSTENV` then `FLDENV` reproduces CW, SW and TW always
(48_environment.md R458). -/
def Obligations.SaveRestoreRoundTrip : Prop :=
  ∀ (m m' : MemOperand) (s s' t u : State), s.guards = [] → s'.guards = [] → m'.ea = m.ea →
    s'.opsize32 = s.opsize32 → s'.mem = t.mem →
    (s.params.fsaveReinit = false → exec (.fsave m) s = .next t → exec (.frstor m') s' = .next u →
      u.cw = s.cw ∧ u.sw = s.sw ∧ (s.tagsAgree → u.tw = s.tw) ∧ u.regs = s.regs ∧ u.rm = rcTable (rcOf s.cw)) ∧
    (exec (.fstenv m) s = .next t → exec (.fldenv m') s' = .next u → u.cw = s.cw ∧ u.sw = s.sw ∧ u.tw = s.tw)

/-! ## The command port -/

/-- The commands match the in-core handlers of their opcodes, but for the cycle report, which `FRNDINT` loses when its
funnel fails and the host's `i386_trap` does not return (49_host_command_port.md R470, R472 to R479;
70_reset_and_hazards.md R553, notes/assumptions/22.md; the cycle report and `portOut` are the model's choice,
notes/assumptions/15.md). -/
def Obligations.CommandsMatchHandlers : Prop :=
  ∀ (s : State) (v : Word) (m : MemOperand),
    exec .finit s = .next (charged .finit (portStep .fninit s)) ∧
    exec .fclex s = .next (charged .fclex (portStep .fclex s)) ∧
    (let t := portStep .frndint s
    exec .frndint s = .next (if pendingOf t.cw t.sw = 0#6 then charged .frndint t else afterTrap .frndint t)) ∧
    portStep (.fldcw v) s = { s with cw := v, rm := rcTable (rcOf v) } ∧ portStep .wait s = s ∧
    portStep .fstcw s = { s with portOut := some (s.cw.setWidth 64) } ∧
    portStep .fstsw s = { s with portOut := some (s.sw.setWidth 64) } ∧
    (s.guards = [] →
      exec (.fsave m) s = .next (charged (.fsave m) (portStep (.fsave m.ea) s)) ∧
      exec (.frstor m) s = .next (charged (.frstor m) (portStep (.frstor m.ea) s)))

/-- The command `fistp` delivers the integer image of ST(0) under the given rounding mode and pops; CW and RM are the same
afterwards on every path (49_host_command_port.md R480; its delivery in `portOut` is the model's choice,
notes/assumptions/15.md). -/
def Obligations.FistpCommandOverridesRounding : Prop :=
  ∀ (s : State) (w : IntWidth) (rc : BitVec 2),
    (portStep (.fistp w rc) s).cw = s.cw ∧ (portStep (.fistp w rc) s).rm = s.rm ∧
    (s.fx = KFlags.empty → (s.isEmpty 0 = true ∨ (s.st 0).isUnsupported = false) →
      let out := intOut w.bits { s with rm := rcTable rc }
      (pendingOf s.cw out.2 = 0#6 → portStep (.fistp w rc) s =
        poppedIf true (out.2 &&& 0xFF7F#16) { s with portOut := some (out.1.setWidth 64) }) ∧
      (pendingOf s.cw out.2 ≠ 0#6 → portStep (.fistp w rc) s = suppressed s out.2))
end

