-- ==== Sys2Proof/Laws/Bits.lean ====
section
/-! SUPPORT. The fields of the 16-bit words: what a read gives after a write of the same field and of another. -/

namespace Sys2Proof.Machine

/-- A bit after `putBit`. -/
theorem putBit_getLsbD (w : Word) (n k : Nat) (b : Bool) :
    (putBit w n b).getLsbD k = if k = n ∧ k < 16 then b else w.getLsbD k := by
  unfold putBit
  by_cases hk : k < 16
  · cases b <;> by_cases h : n = k <;> simp [h, hk, eq_comm]
  · rw [BitVec.getLsbD_of_ge _ k (by omega), BitVec.getLsbD_of_ge _ k (by omega)]; simp [hk]

/-- Two words with the same bits are the same. -/
theorem word_ext {v w : Word} (h : ∀ k < 16, v.getLsbD k = w.getLsbD k) : v = w :=
  BitVec.eq_of_getLsbD_eq fun k hk => h k hk

/-- TOP, bit by bit. -/
theorem topOf_getLsbD (w : Word) (k : Nat) : (topOf w).getLsbD k = (decide (k < 3) && w.getLsbD (11 + k)) := by
  simp [topOf, BitVec.getLsbD_extractLsb']

/-- A bit outside 13:11 leaves TOP alone. -/
theorem topOf_putBit (w : Word) (n : Nat) (b : Bool) (h : n < 11 ∨ 13 < n) : topOf (putBit w n b) = topOf w := by
  apply BitVec.eq_of_getLsbD_eq
  intro k hk
  have hn : 11 + k ≠ n := by omega
  simp [topOf_getLsbD, putBit_getLsbD, hn]

@[simp] theorem topOf_putBit_IE (w : Word) (b : Bool) : topOf (putBit w bitIE b) = topOf w :=
  topOf_putBit w _ b (by decide)
@[simp] theorem topOf_putBit_ZE (w : Word) (b : Bool) : topOf (putBit w bitZE b) = topOf w :=
  topOf_putBit w _ b (by decide)
@[simp] theorem topOf_putBit_OE (w : Word) (b : Bool) : topOf (putBit w bitOE b) = topOf w :=
  topOf_putBit w _ b (by decide)
@[simp] theorem topOf_putBit_UE (w : Word) (b : Bool) : topOf (putBit w bitUE b) = topOf w :=
  topOf_putBit w _ b (by decide)
@[simp] theorem topOf_putBit_PE (w : Word) (b : Bool) : topOf (putBit w bitPE b) = topOf w :=
  topOf_putBit w _ b (by decide)
@[simp] theorem topOf_putBit_SF (w : Word) (b : Bool) : topOf (putBit w bitSF b) = topOf w :=
  topOf_putBit w _ b (by decide)
@[simp] theorem topOf_putBit_ES (w : Word) (b : Bool) : topOf (putBit w bitES b) = topOf w :=
  topOf_putBit w _ b (by decide)
@[simp] theorem topOf_putBit_C0 (w : Word) (b : Bool) : topOf (putBit w bitC0 b) = topOf w :=
  topOf_putBit w _ b (by decide)
@[simp] theorem topOf_putBit_C1 (w : Word) (b : Bool) : topOf (putBit w bitC1 b) = topOf w :=
  topOf_putBit w _ b (by decide)
@[simp] theorem topOf_putBit_C2 (w : Word) (b : Bool) : topOf (putBit w bitC2 b) = topOf w :=
  topOf_putBit w _ b (by decide)
@[simp] theorem topOf_putBit_C3 (w : Word) (b : Bool) : topOf (putBit w bitC3 b) = topOf w :=
  topOf_putBit w _ b (by decide)

/-- TOP after TOP is written. -/
@[simp] theorem topOf_putTop (w : Word) (t : Slot) : topOf (putTop w t) = t := by
  apply BitVec.eq_of_getLsbD_eq
  intro k hk
  have : k = 0 ∨ k = 1 ∨ k = 2 := by omega
  rcases this with rfl | rfl | rfl <;> simp [topOf, putTop]

/-- A bit outside 13:11 after TOP is written. -/
theorem putTop_getLsbD (w : Word) (t : Slot) (k : Nat) (h : k < 11 ∨ 13 < k) :
    (putTop w t).getLsbD k = w.getLsbD k := by
  by_cases hk : k < 16
  · have : k = 0 ∨ k = 1 ∨ k = 2 ∨ k = 3 ∨ k = 4 ∨ k = 5 ∨ k = 6 ∨ k = 7 ∨ k = 8 ∨ k = 9 ∨ k = 10 ∨ k = 14 ∨
        k = 15 := by omega
    rcases this with rfl | rfl | rfl | rfl | rfl | rfl | rfl | rfl | rfl | rfl | rfl | rfl | rfl <;>
      simp [putTop]
  · rw [BitVec.getLsbD_of_ge _ k (by omega), BitVec.getLsbD_of_ge _ k (by omega)]

/-- The latches and masks, bit by bit. -/
theorem low6_getLsbD (w : Word) (k : Nat) : (low6 w).getLsbD k = (decide (k < 6) && w.getLsbD k) := by
  simp [low6, BitVec.getLsbD_extractLsb']

/-- A bit above the six latches leaves them alone. -/
theorem low6_putBit (w : Word) (n : Nat) (b : Bool) (h : 6 ≤ n) : low6 (putBit w n b) = low6 w := by
  apply BitVec.eq_of_getLsbD_eq
  intro k hk
  have hn : k ≠ n := by omega
  simp [low6_getLsbD, putBit_getLsbD, hn]

@[simp] theorem low6_putBit_ES (w : Word) (b : Bool) : low6 (putBit w bitES b) = low6 w := low6_putBit w _ b (by decide)
@[simp] theorem low6_putBit_SF (w : Word) (b : Bool) : low6 (putBit w bitSF b) = low6 w := low6_putBit w _ b (by decide)
@[simp] theorem low6_putBit_C1 (w : Word) (b : Bool) : low6 (putBit w bitC1 b) = low6 w := low6_putBit w _ b (by decide)

/-- TOP is apart from the six latches. -/
@[simp] theorem low6_putTop (w : Word) (t : Slot) : low6 (putTop w t) = low6 w := by
  apply BitVec.eq_of_getLsbD_eq
  intro k hk
  simp [low6_getLsbD, putTop_getLsbD w t k (by omega)]

/-- The tag of a slot after a tag is written. -/
theorem tagOfSlot_putTag (tw : Word) (p q : Slot) (t : BitVec 2) :
    tagOfSlot (putTag tw p t) q = if q = p then t else tagOfSlot tw q := by
  apply BitVec.eq_of_getLsbD_eq
  intro k hk
  have hk2 : k = 0 ∨ k = 1 := by omega
  obtain ⟨⟨p, hp⟩⟩ := p
  obtain ⟨⟨q, hq⟩⟩ := q
  have hp' : p = 0 ∨ p = 1 ∨ p = 2 ∨ p = 3 ∨ p = 4 ∨ p = 5 ∨ p = 6 ∨ p = 7 := by omega
  have hq' : q = 0 ∨ q = 1 ∨ q = 2 ∨ q = 3 ∨ q = 4 ∨ q = 5 ∨ q = 6 ∨ q = 7 := by omega
  rcases hk2 with rfl | rfl <;> rcases hp' with rfl | rfl | rfl | rfl | rfl | rfl | rfl | rfl <;>
    rcases hq' with rfl | rfl | rfl | rfl | rfl | rfl | rfl | rfl <;>
    simp [tagOfSlot, putTag]

@[simp] theorem tagOfSlot_putTag_same (tw : Word) (p : Slot) (t : BitVec 2) : tagOfSlot (putTag tw p t) p = t := by
  simp [tagOfSlot_putTag]

/-- Another slot's tag after a tag is written. -/
theorem tagOfSlot_putTag_other (tw : Word) (p q : Slot) (t : BitVec 2) (h : q ≠ p) :
    tagOfSlot (putTag tw p t) q = tagOfSlot tw q := by simp [tagOfSlot_putTag, h]

end Sys2Proof.Machine
end

