-- ==== Sys2Proof/Laws/Codecs.lean ====
section
/-! SUPPORT. What the decoder of a memory source can answer, in the terms of the claims: the screens by the fields of the
image, and the value. -/

namespace Sys2Proof.Machine

theorem decF32_eq (w : Nat) :
    decF32 (BitVec.ofNat 32 w) = if MemSrc.f32.signals w then (indef, true) else (MemSrc.f32.value w, false) := by
  have h : isSnanF32 (BitVec.ofNat 32 w) = MemSrc.f32.signals w := by
    rw [Bool.eq_iff_iff]
    simp only [isSnanF32, MemSrc.signals, Bool.and_eq_true, beq_iff_eq, bne_iff_ne, Bool.not_eq_true', decide_eq_true_eq,
      ← BitVec.toNat_inj, ne_eq, BitVec.extractLsb'_toNat, BitVec.toNat_ofNat, Nat.shiftRight_eq_div_pow,
      BitVec.getLsbD, Nat.testBit_eq_decide_div_mod_eq, decide_eq_false_iff_not]
    omega
  simp [decF32, h, MemSrc.value]

theorem decF64_eq (w : Nat) :
    decF64 (BitVec.ofNat 64 w) = if MemSrc.f64.signals w then (indef, true) else (MemSrc.f64.value w, false) := by
  have h : isSnanF64 (BitVec.ofNat 64 w) = MemSrc.f64.signals w := by
    rw [Bool.eq_iff_iff]
    simp only [isSnanF64, MemSrc.signals, Bool.and_eq_true, beq_iff_eq, bne_iff_ne, Bool.not_eq_true', decide_eq_true_eq,
      ← BitVec.toNat_inj, ne_eq, BitVec.extractLsb'_toNat, BitVec.toNat_ofNat, Nat.shiftRight_eq_div_pow,
      BitVec.getLsbD, Nat.testBit_eq_decide_div_mod_eq, decide_eq_false_iff_not]
    omega
  simp [decF64, h, MemSrc.value]

/-- The decoder of a memory source: INDEF for a signaling NaN, else the value (41_codecs.md R191, R192, R197). -/
theorem MemSrc.decode_eq (f : MemSrc) (w : Nat) :
    f.decode w = if f.signals w then (indef, true) else (f.value w, false) := by
  cases f with
  | f32 => exact decF32_eq w
  | f64 => exact decF64_eq w
  | int n => simp [MemSrc.decode, MemSrc.signals, MemSrc.value, decInt]

/-- The denormal screen of a memory source (41_codecs.md R193). -/
theorem MemSrc.denormal_eq (f : MemSrc) (w : Nat) : f.denormal w = f.tiny w := by
  cases f <;> rw [Bool.eq_iff_iff] <;>
    simp only [MemSrc.denormal, MemSrc.tiny, isDenormalF32, isDenormalF64, Bool.and_eq_true, beq_iff_eq, bne_iff_ne,
      decide_eq_true_eq, ← BitVec.toNat_inj, ne_eq, BitVec.extractLsb'_toNat, BitVec.toNat_ofNat,
      Nat.shiftRight_eq_div_pow] <;> omega

end Sys2Proof.Machine
end

