-- ==== Sys2Proof/Laws/State.lean ====
section
/-! SUPPORT. One lemma per field per update of the shared operations: what each leaves in each field. -/

namespace Sys2Proof.Machine

variable (s : State)

/-! ### latch -/

@[simp] theorem latch_regs (n : Nat) : (latch n s).regs = s.regs := rfl
@[simp] theorem latch_cw (n : Nat) : (latch n s).cw = s.cw := rfl
@[simp] theorem latch_sw (n : Nat) : (latch n s).sw = putBit s.sw n true := rfl
@[simp] theorem latch_tw (n : Nat) : (latch n s).tw = s.tw := rfl
@[simp] theorem latch_fip (n : Nat) : (latch n s).fip = s.fip := rfl
@[simp] theorem latch_fdp (n : Nat) : (latch n s).fdp = s.fdp := rfl
@[simp] theorem latch_fop (n : Nat) : (latch n s).fop = s.fop := rfl
@[simp] theorem latch_fx (n : Nat) : (latch n s).fx = s.fx := rfl
@[simp] theorem latch_rm (n : Nat) : (latch n s).rm = s.rm := rfl
@[simp] theorem latch_mem (n : Nat) : (latch n s).mem = s.mem := rfl
@[simp] theorem latch_ax (n : Nat) : (latch n s).ax = s.ax := rfl
@[simp] theorem latch_zf (n : Nat) : (latch n s).zf = s.zf := rfl
@[simp] theorem latch_pf (n : Nat) : (latch n s).pf = s.pf := rfl
@[simp] theorem latch_cf (n : Nat) : (latch n s).cf = s.cf := rfl
@[simp] theorem latch_honorsMf (n : Nat) : (latch n s).honorsMf = s.honorsMf := rfl
@[simp] theorem latch_prot (n : Nat) : (latch n s).prot = s.prot := rfl
@[simp] theorem latch_opsize32 (n : Nat) : (latch n s).opsize32 = s.opsize32 := rfl
@[simp] theorem latch_trapReturns (n : Nat) : (latch n s).trapReturns = s.trapReturns := rfl
@[simp] theorem latch_guards (n : Nat) : (latch n s).guards = s.guards := rfl
@[simp] theorem latch_cycles (n : Nat) : (latch n s).cycles = s.cycles := rfl
@[simp] theorem latch_mfRequest (n : Nat) : (latch n s).mfRequest = s.mfRequest := rfl
@[simp] theorem latch_hostFault (n : Nat) : (latch n s).hostFault = s.hostFault := rfl
@[simp] theorem latch_portOut (n : Nat) : (latch n s).portOut = s.portOut := rfl
@[simp] theorem latch_stream (n : Nat) : (latch n s).stream = s.stream := rfl
@[simp] theorem latch_pos (n : Nat) : (latch n s).pos = s.pos := rfl
@[simp] theorem latch_params (n : Nat) : (latch n s).params = s.params := rfl
@[simp] theorem latch_free (n : Nat) : (latch n s).free = s.free := rfl

/-! ### latchIf -/

@[simp] theorem latchIf_regs (b : Bool) (n : Nat) : (latchIf b n s).regs = s.regs := by cases b <;> rfl
@[simp] theorem latchIf_cw (b : Bool) (n : Nat) : (latchIf b n s).cw = s.cw := by cases b <;> rfl
@[simp] theorem latchIf_sw (b : Bool) (n : Nat) :
    (latchIf b n s).sw = if b then putBit s.sw n true else s.sw := by cases b <;> rfl
@[simp] theorem latchIf_tw (b : Bool) (n : Nat) : (latchIf b n s).tw = s.tw := by cases b <;> rfl
@[simp] theorem latchIf_fip (b : Bool) (n : Nat) : (latchIf b n s).fip = s.fip := by cases b <;> rfl
@[simp] theorem latchIf_fdp (b : Bool) (n : Nat) : (latchIf b n s).fdp = s.fdp := by cases b <;> rfl
@[simp] theorem latchIf_fop (b : Bool) (n : Nat) : (latchIf b n s).fop = s.fop := by cases b <;> rfl
@[simp] theorem latchIf_fx (b : Bool) (n : Nat) : (latchIf b n s).fx = s.fx := by cases b <;> rfl
@[simp] theorem latchIf_rm (b : Bool) (n : Nat) : (latchIf b n s).rm = s.rm := by cases b <;> rfl
@[simp] theorem latchIf_mem (b : Bool) (n : Nat) : (latchIf b n s).mem = s.mem := by cases b <;> rfl
@[simp] theorem latchIf_ax (b : Bool) (n : Nat) : (latchIf b n s).ax = s.ax := by cases b <;> rfl
@[simp] theorem latchIf_zf (b : Bool) (n : Nat) : (latchIf b n s).zf = s.zf := by cases b <;> rfl
@[simp] theorem latchIf_pf (b : Bool) (n : Nat) : (latchIf b n s).pf = s.pf := by cases b <;> rfl
@[simp] theorem latchIf_cf (b : Bool) (n : Nat) : (latchIf b n s).cf = s.cf := by cases b <;> rfl
@[simp] theorem latchIf_honorsMf (b : Bool) (n : Nat) : (latchIf b n s).honorsMf = s.honorsMf := by cases b <;> rfl
@[simp] theorem latchIf_prot (b : Bool) (n : Nat) : (latchIf b n s).prot = s.prot := by cases b <;> rfl
@[simp] theorem latchIf_opsize32 (b : Bool) (n : Nat) : (latchIf b n s).opsize32 = s.opsize32 := by cases b <;> rfl
@[simp] theorem latchIf_trapReturns (b : Bool) (n : Nat) :
    (latchIf b n s).trapReturns = s.trapReturns := by cases b <;> rfl
@[simp] theorem latchIf_guards (b : Bool) (n : Nat) : (latchIf b n s).guards = s.guards := by cases b <;> rfl
@[simp] theorem latchIf_cycles (b : Bool) (n : Nat) : (latchIf b n s).cycles = s.cycles := by cases b <;> rfl
@[simp] theorem latchIf_mfRequest (b : Bool) (n : Nat) : (latchIf b n s).mfRequest = s.mfRequest := by cases b <;> rfl
@[simp] theorem latchIf_hostFault (b : Bool) (n : Nat) : (latchIf b n s).hostFault = s.hostFault := by cases b <;> rfl
@[simp] theorem latchIf_portOut (b : Bool) (n : Nat) : (latchIf b n s).portOut = s.portOut := by cases b <;> rfl
@[simp] theorem latchIf_stream (b : Bool) (n : Nat) : (latchIf b n s).stream = s.stream := by cases b <;> rfl
@[simp] theorem latchIf_pos (b : Bool) (n : Nat) : (latchIf b n s).pos = s.pos := by cases b <;> rfl
@[simp] theorem latchIf_params (b : Bool) (n : Nat) : (latchIf b n s).params = s.params := by cases b <;> rfl
@[simp] theorem latchIf_free (b : Bool) (n : Nat) : (latchIf b n s).free = s.free := by cases b <;> rfl

/-! ### addFx -/

@[simp] theorem addFx_regs (f : KFlags) : (addFx f s).regs = s.regs := rfl
@[simp] theorem addFx_cw (f : KFlags) : (addFx f s).cw = s.cw := rfl
@[simp] theorem addFx_sw (f : KFlags) : (addFx f s).sw = s.sw := rfl
@[simp] theorem addFx_tw (f : KFlags) : (addFx f s).tw = s.tw := rfl
@[simp] theorem addFx_fip (f : KFlags) : (addFx f s).fip = s.fip := rfl
@[simp] theorem addFx_fdp (f : KFlags) : (addFx f s).fdp = s.fdp := rfl
@[simp] theorem addFx_fop (f : KFlags) : (addFx f s).fop = s.fop := rfl
@[simp] theorem addFx_fx (f : KFlags) : (addFx f s).fx = s.fx.union f := rfl
@[simp] theorem addFx_rm (f : KFlags) : (addFx f s).rm = s.rm := rfl
@[simp] theorem addFx_mem (f : KFlags) : (addFx f s).mem = s.mem := rfl
@[simp] theorem addFx_ax (f : KFlags) : (addFx f s).ax = s.ax := rfl
@[simp] theorem addFx_zf (f : KFlags) : (addFx f s).zf = s.zf := rfl
@[simp] theorem addFx_pf (f : KFlags) : (addFx f s).pf = s.pf := rfl
@[simp] theorem addFx_cf (f : KFlags) : (addFx f s).cf = s.cf := rfl
@[simp] theorem addFx_honorsMf (f : KFlags) : (addFx f s).honorsMf = s.honorsMf := rfl
@[simp] theorem addFx_prot (f : KFlags) : (addFx f s).prot = s.prot := rfl
@[simp] theorem addFx_opsize32 (f : KFlags) : (addFx f s).opsize32 = s.opsize32 := rfl
@[simp] theorem addFx_trapReturns (f : KFlags) : (addFx f s).trapReturns = s.trapReturns := rfl
@[simp] theorem addFx_guards (f : KFlags) : (addFx f s).guards = s.guards := rfl
@[simp] theorem addFx_cycles (f : KFlags) : (addFx f s).cycles = s.cycles := rfl
@[simp] theorem addFx_mfRequest (f : KFlags) : (addFx f s).mfRequest = s.mfRequest := rfl
@[simp] theorem addFx_hostFault (f : KFlags) : (addFx f s).hostFault = s.hostFault := rfl
@[simp] theorem addFx_portOut (f : KFlags) : (addFx f s).portOut = s.portOut := rfl
@[simp] theorem addFx_stream (f : KFlags) : (addFx f s).stream = s.stream := rfl
@[simp] theorem addFx_pos (f : KFlags) : (addFx f s).pos = s.pos := rfl
@[simp] theorem addFx_params (f : KFlags) : (addFx f s).params = s.params := rfl
@[simp] theorem addFx_free (f : KFlags) : (addFx f s).free = s.free := rfl

/-! ### setSlot -/

@[simp] theorem setSlot_regs (p : Slot) (v : Fx80) (t : BitVec 2) :
    (setSlot p v t s).regs = s.regs.set p.toNat v := rfl
@[simp] theorem setSlot_cw (p : Slot) (v : Fx80) (t : BitVec 2) : (setSlot p v t s).cw = s.cw := rfl
@[simp] theorem setSlot_sw (p : Slot) (v : Fx80) (t : BitVec 2) : (setSlot p v t s).sw = s.sw := rfl
@[simp] theorem setSlot_tw (p : Slot) (v : Fx80) (t : BitVec 2) : (setSlot p v t s).tw = putTag s.tw p t := rfl
@[simp] theorem setSlot_fip (p : Slot) (v : Fx80) (t : BitVec 2) : (setSlot p v t s).fip = s.fip := rfl
@[simp] theorem setSlot_fdp (p : Slot) (v : Fx80) (t : BitVec 2) : (setSlot p v t s).fdp = s.fdp := rfl
@[simp] theorem setSlot_fop (p : Slot) (v : Fx80) (t : BitVec 2) : (setSlot p v t s).fop = s.fop := rfl
@[simp] theorem setSlot_fx (p : Slot) (v : Fx80) (t : BitVec 2) : (setSlot p v t s).fx = s.fx := rfl
@[simp] theorem setSlot_rm (p : Slot) (v : Fx80) (t : BitVec 2) : (setSlot p v t s).rm = s.rm := rfl
@[simp] theorem setSlot_mem (p : Slot) (v : Fx80) (t : BitVec 2) : (setSlot p v t s).mem = s.mem := rfl
@[simp] theorem setSlot_ax (p : Slot) (v : Fx80) (t : BitVec 2) : (setSlot p v t s).ax = s.ax := rfl
@[simp] theorem setSlot_zf (p : Slot) (v : Fx80) (t : BitVec 2) : (setSlot p v t s).zf = s.zf := rfl
@[simp] theorem setSlot_pf (p : Slot) (v : Fx80) (t : BitVec 2) : (setSlot p v t s).pf = s.pf := rfl
@[simp] theorem setSlot_cf (p : Slot) (v : Fx80) (t : BitVec 2) : (setSlot p v t s).cf = s.cf := rfl
@[simp] theorem setSlot_honorsMf (p : Slot) (v : Fx80) (t : BitVec 2) : (setSlot p v t s).honorsMf = s.honorsMf := rfl
@[simp] theorem setSlot_prot (p : Slot) (v : Fx80) (t : BitVec 2) : (setSlot p v t s).prot = s.prot := rfl
@[simp] theorem setSlot_opsize32 (p : Slot) (v : Fx80) (t : BitVec 2) : (setSlot p v t s).opsize32 = s.opsize32 := rfl
@[simp] theorem setSlot_trapReturns (p : Slot) (v : Fx80) (t : BitVec 2) :
    (setSlot p v t s).trapReturns = s.trapReturns := rfl
@[simp] theorem setSlot_guards (p : Slot) (v : Fx80) (t : BitVec 2) : (setSlot p v t s).guards = s.guards := rfl
@[simp] theorem setSlot_cycles (p : Slot) (v : Fx80) (t : BitVec 2) : (setSlot p v t s).cycles = s.cycles := rfl
@[simp] theorem setSlot_mfRequest (p : Slot) (v : Fx80) (t : BitVec 2) :
    (setSlot p v t s).mfRequest = s.mfRequest := rfl
@[simp] theorem setSlot_hostFault (p : Slot) (v : Fx80) (t : BitVec 2) :
    (setSlot p v t s).hostFault = s.hostFault := rfl
@[simp] theorem setSlot_portOut (p : Slot) (v : Fx80) (t : BitVec 2) : (setSlot p v t s).portOut = s.portOut := rfl
@[simp] theorem setSlot_stream (p : Slot) (v : Fx80) (t : BitVec 2) : (setSlot p v t s).stream = s.stream := rfl
@[simp] theorem setSlot_pos (p : Slot) (v : Fx80) (t : BitVec 2) : (setSlot p v t s).pos = s.pos := rfl
@[simp] theorem setSlot_params (p : Slot) (v : Fx80) (t : BitVec 2) : (setSlot p v t s).params = s.params := rfl
@[simp] theorem setSlot_free (p : Slot) (v : Fx80) (t : BitVec 2) : (setSlot p v t s).free = s.free := rfl

/-! ### setTop -/

@[simp] theorem setTop_regs (t : Slot) : (setTop t s).regs = s.regs := rfl
@[simp] theorem setTop_cw (t : Slot) : (setTop t s).cw = s.cw := rfl
@[simp] theorem setTop_sw (t : Slot) : (setTop t s).sw = putTop s.sw t := rfl
@[simp] theorem setTop_tw (t : Slot) : (setTop t s).tw = s.tw := rfl
@[simp] theorem setTop_fip (t : Slot) : (setTop t s).fip = s.fip := rfl
@[simp] theorem setTop_fdp (t : Slot) : (setTop t s).fdp = s.fdp := rfl
@[simp] theorem setTop_fop (t : Slot) : (setTop t s).fop = s.fop := rfl
@[simp] theorem setTop_fx (t : Slot) : (setTop t s).fx = s.fx := rfl
@[simp] theorem setTop_rm (t : Slot) : (setTop t s).rm = s.rm := rfl
@[simp] theorem setTop_mem (t : Slot) : (setTop t s).mem = s.mem := rfl
@[simp] theorem setTop_ax (t : Slot) : (setTop t s).ax = s.ax := rfl
@[simp] theorem setTop_zf (t : Slot) : (setTop t s).zf = s.zf := rfl
@[simp] theorem setTop_pf (t : Slot) : (setTop t s).pf = s.pf := rfl
@[simp] theorem setTop_cf (t : Slot) : (setTop t s).cf = s.cf := rfl
@[simp] theorem setTop_honorsMf (t : Slot) : (setTop t s).honorsMf = s.honorsMf := rfl
@[simp] theorem setTop_prot (t : Slot) : (setTop t s).prot = s.prot := rfl
@[simp] theorem setTop_opsize32 (t : Slot) : (setTop t s).opsize32 = s.opsize32 := rfl
@[simp] theorem setTop_trapReturns (t : Slot) : (setTop t s).trapReturns = s.trapReturns := rfl
@[simp] theorem setTop_guards (t : Slot) : (setTop t s).guards = s.guards := rfl
@[simp] theorem setTop_cycles (t : Slot) : (setTop t s).cycles = s.cycles := rfl
@[simp] theorem setTop_mfRequest (t : Slot) : (setTop t s).mfRequest = s.mfRequest := rfl
@[simp] theorem setTop_hostFault (t : Slot) : (setTop t s).hostFault = s.hostFault := rfl
@[simp] theorem setTop_portOut (t : Slot) : (setTop t s).portOut = s.portOut := rfl
@[simp] theorem setTop_stream (t : Slot) : (setTop t s).stream = s.stream := rfl
@[simp] theorem setTop_pos (t : Slot) : (setTop t s).pos = s.pos := rfl
@[simp] theorem setTop_params (t : Slot) : (setTop t s).params = s.params := rfl
@[simp] theorem setTop_free (t : Slot) : (setTop t s).free = s.free := rfl

/-! ### setStackUnderflow -/

@[simp] theorem setStackUnderflow_regs : (setStackUnderflow s).regs = s.regs := rfl
@[simp] theorem setStackUnderflow_cw : (setStackUnderflow s).cw = s.cw := rfl
@[simp] theorem setStackUnderflow_sw :
    (setStackUnderflow s).sw = putBit (putBit (putBit s.sw bitSF true) bitIE true) bitC1 false := rfl
@[simp] theorem setStackUnderflow_tw : (setStackUnderflow s).tw = s.tw := rfl
@[simp] theorem setStackUnderflow_fip : (setStackUnderflow s).fip = s.fip := rfl
@[simp] theorem setStackUnderflow_fdp : (setStackUnderflow s).fdp = s.fdp := rfl
@[simp] theorem setStackUnderflow_fop : (setStackUnderflow s).fop = s.fop := rfl
@[simp] theorem setStackUnderflow_fx : (setStackUnderflow s).fx = s.fx := rfl
@[simp] theorem setStackUnderflow_rm : (setStackUnderflow s).rm = s.rm := rfl
@[simp] theorem setStackUnderflow_mem : (setStackUnderflow s).mem = s.mem := rfl
@[simp] theorem setStackUnderflow_ax : (setStackUnderflow s).ax = s.ax := rfl
@[simp] theorem setStackUnderflow_zf : (setStackUnderflow s).zf = s.zf := rfl
@[simp] theorem setStackUnderflow_pf : (setStackUnderflow s).pf = s.pf := rfl
@[simp] theorem setStackUnderflow_cf : (setStackUnderflow s).cf = s.cf := rfl
@[simp] theorem setStackUnderflow_honorsMf : (setStackUnderflow s).honorsMf = s.honorsMf := rfl
@[simp] theorem setStackUnderflow_prot : (setStackUnderflow s).prot = s.prot := rfl
@[simp] theorem setStackUnderflow_opsize32 : (setStackUnderflow s).opsize32 = s.opsize32 := rfl
@[simp] theorem setStackUnderflow_trapReturns : (setStackUnderflow s).trapReturns = s.trapReturns := rfl
@[simp] theorem setStackUnderflow_guards : (setStackUnderflow s).guards = s.guards := rfl
@[simp] theorem setStackUnderflow_cycles : (setStackUnderflow s).cycles = s.cycles := rfl
@[simp] theorem setStackUnderflow_mfRequest : (setStackUnderflow s).mfRequest = s.mfRequest := rfl
@[simp] theorem setStackUnderflow_hostFault : (setStackUnderflow s).hostFault = s.hostFault := rfl
@[simp] theorem setStackUnderflow_portOut : (setStackUnderflow s).portOut = s.portOut := rfl
@[simp] theorem setStackUnderflow_stream : (setStackUnderflow s).stream = s.stream := rfl
@[simp] theorem setStackUnderflow_pos : (setStackUnderflow s).pos = s.pos := rfl
@[simp] theorem setStackUnderflow_params : (setStackUnderflow s).params = s.params := rfl
@[simp] theorem setStackUnderflow_free : (setStackUnderflow s).free = s.free := rfl

/-! ### setStackOverflow -/

@[simp] theorem setStackOverflow_regs : (setStackOverflow s).regs = s.regs := rfl
@[simp] theorem setStackOverflow_cw : (setStackOverflow s).cw = s.cw := rfl
@[simp] theorem setStackOverflow_sw :
    (setStackOverflow s).sw = putBit (putBit (putBit s.sw bitSF true) bitIE true) bitC1 true := rfl
@[simp] theorem setStackOverflow_tw : (setStackOverflow s).tw = s.tw := rfl
@[simp] theorem setStackOverflow_fip : (setStackOverflow s).fip = s.fip := rfl
@[simp] theorem setStackOverflow_fdp : (setStackOverflow s).fdp = s.fdp := rfl
@[simp] theorem setStackOverflow_fop : (setStackOverflow s).fop = s.fop := rfl
@[simp] theorem setStackOverflow_fx : (setStackOverflow s).fx = s.fx := rfl
@[simp] theorem setStackOverflow_rm : (setStackOverflow s).rm = s.rm := rfl
@[simp] theorem setStackOverflow_mem : (setStackOverflow s).mem = s.mem := rfl
@[simp] theorem setStackOverflow_ax : (setStackOverflow s).ax = s.ax := rfl
@[simp] theorem setStackOverflow_zf : (setStackOverflow s).zf = s.zf := rfl
@[simp] theorem setStackOverflow_pf : (setStackOverflow s).pf = s.pf := rfl
@[simp] theorem setStackOverflow_cf : (setStackOverflow s).cf = s.cf := rfl
@[simp] theorem setStackOverflow_honorsMf : (setStackOverflow s).honorsMf = s.honorsMf := rfl
@[simp] theorem setStackOverflow_prot : (setStackOverflow s).prot = s.prot := rfl
@[simp] theorem setStackOverflow_opsize32 : (setStackOverflow s).opsize32 = s.opsize32 := rfl
@[simp] theorem setStackOverflow_trapReturns : (setStackOverflow s).trapReturns = s.trapReturns := rfl
@[simp] theorem setStackOverflow_guards : (setStackOverflow s).guards = s.guards := rfl
@[simp] theorem setStackOverflow_cycles : (setStackOverflow s).cycles = s.cycles := rfl
@[simp] theorem setStackOverflow_mfRequest : (setStackOverflow s).mfRequest = s.mfRequest := rfl
@[simp] theorem setStackOverflow_hostFault : (setStackOverflow s).hostFault = s.hostFault := rfl
@[simp] theorem setStackOverflow_portOut : (setStackOverflow s).portOut = s.portOut := rfl
@[simp] theorem setStackOverflow_stream : (setStackOverflow s).stream = s.stream := rfl
@[simp] theorem setStackOverflow_pos : (setStackOverflow s).pos = s.pos := rfl
@[simp] theorem setStackOverflow_params : (setStackOverflow s).params = s.params := rfl
@[simp] theorem setStackOverflow_free : (setStackOverflow s).free = s.free := rfl

/-! ### checkOperands -/

@[simp] theorem checkOperands_regs (is : List Slot) :
    (checkOperands is s).regs = s.regs := by unfold checkOperands; split <;> rfl
@[simp] theorem checkOperands_cw (is : List Slot) :
    (checkOperands is s).cw = s.cw := by unfold checkOperands; split <;> rfl
@[simp] theorem checkOperands_sw (is : List Slot) :
    (checkOperands is s).sw = if s.anyEmpty is then (setStackUnderflow s).sw else s.sw := by
  unfold checkOperands; split <;> rfl
@[simp] theorem checkOperands_tw (is : List Slot) :
    (checkOperands is s).tw = s.tw := by unfold checkOperands; split <;> rfl
@[simp] theorem checkOperands_fip (is : List Slot) :
    (checkOperands is s).fip = s.fip := by unfold checkOperands; split <;> rfl
@[simp] theorem checkOperands_fdp (is : List Slot) :
    (checkOperands is s).fdp = s.fdp := by unfold checkOperands; split <;> rfl
@[simp] theorem checkOperands_fop (is : List Slot) :
    (checkOperands is s).fop = s.fop := by unfold checkOperands; split <;> rfl
@[simp] theorem checkOperands_fx (is : List Slot) :
    (checkOperands is s).fx = s.fx := by unfold checkOperands; split <;> rfl
@[simp] theorem checkOperands_rm (is : List Slot) :
    (checkOperands is s).rm = s.rm := by unfold checkOperands; split <;> rfl
@[simp] theorem checkOperands_mem (is : List Slot) :
    (checkOperands is s).mem = s.mem := by unfold checkOperands; split <;> rfl
@[simp] theorem checkOperands_ax (is : List Slot) :
    (checkOperands is s).ax = s.ax := by unfold checkOperands; split <;> rfl
@[simp] theorem checkOperands_zf (is : List Slot) :
    (checkOperands is s).zf = s.zf := by unfold checkOperands; split <;> rfl
@[simp] theorem checkOperands_pf (is : List Slot) :
    (checkOperands is s).pf = s.pf := by unfold checkOperands; split <;> rfl
@[simp] theorem checkOperands_cf (is : List Slot) :
    (checkOperands is s).cf = s.cf := by unfold checkOperands; split <;> rfl
@[simp] theorem checkOperands_honorsMf (is : List Slot) :
    (checkOperands is s).honorsMf = s.honorsMf := by unfold checkOperands; split <;> rfl
@[simp] theorem checkOperands_prot (is : List Slot) :
    (checkOperands is s).prot = s.prot := by unfold checkOperands; split <;> rfl
@[simp] theorem checkOperands_opsize32 (is : List Slot) :
    (checkOperands is s).opsize32 = s.opsize32 := by unfold checkOperands; split <;> rfl
@[simp] theorem checkOperands_trapReturns (is : List Slot) :
    (checkOperands is s).trapReturns = s.trapReturns := by unfold checkOperands; split <;> rfl
@[simp] theorem checkOperands_guards (is : List Slot) :
    (checkOperands is s).guards = s.guards := by unfold checkOperands; split <;> rfl
@[simp] theorem checkOperands_cycles (is : List Slot) :
    (checkOperands is s).cycles = s.cycles := by unfold checkOperands; split <;> rfl
@[simp] theorem checkOperands_mfRequest (is : List Slot) :
    (checkOperands is s).mfRequest = s.mfRequest := by unfold checkOperands; split <;> rfl
@[simp] theorem checkOperands_hostFault (is : List Slot) :
    (checkOperands is s).hostFault = s.hostFault := by unfold checkOperands; split <;> rfl
@[simp] theorem checkOperands_portOut (is : List Slot) :
    (checkOperands is s).portOut = s.portOut := by unfold checkOperands; split <;> rfl
@[simp] theorem checkOperands_stream (is : List Slot) :
    (checkOperands is s).stream = s.stream := by unfold checkOperands; split <;> rfl
@[simp] theorem checkOperands_pos (is : List Slot) :
    (checkOperands is s).pos = s.pos := by unfold checkOperands; split <;> rfl
@[simp] theorem checkOperands_params (is : List Slot) :
    (checkOperands is s).params = s.params := by unfold checkOperands; split <;> rfl
@[simp] theorem checkOperands_free (is : List Slot) :
    (checkOperands is s).free = s.free := by unfold checkOperands; split <;> rfl

/-! ### pushCheck -/

@[simp] theorem pushCheck_regs : (pushCheck s).regs = s.regs := by unfold pushCheck; split <;> rfl
@[simp] theorem pushCheck_cw : (pushCheck s).cw = s.cw := by unfold pushCheck; split <;> rfl
@[simp] theorem pushCheck_sw :
    (pushCheck s).sw = if s.full then (setStackOverflow s).sw else s.sw := by unfold pushCheck; split <;> rfl
@[simp] theorem pushCheck_tw : (pushCheck s).tw = s.tw := by unfold pushCheck; split <;> rfl
@[simp] theorem pushCheck_fip : (pushCheck s).fip = s.fip := by unfold pushCheck; split <;> rfl
@[simp] theorem pushCheck_fdp : (pushCheck s).fdp = s.fdp := by unfold pushCheck; split <;> rfl
@[simp] theorem pushCheck_fop : (pushCheck s).fop = s.fop := by unfold pushCheck; split <;> rfl
@[simp] theorem pushCheck_fx : (pushCheck s).fx = s.fx := by unfold pushCheck; split <;> rfl
@[simp] theorem pushCheck_rm : (pushCheck s).rm = s.rm := by unfold pushCheck; split <;> rfl
@[simp] theorem pushCheck_mem : (pushCheck s).mem = s.mem := by unfold pushCheck; split <;> rfl
@[simp] theorem pushCheck_ax : (pushCheck s).ax = s.ax := by unfold pushCheck; split <;> rfl
@[simp] theorem pushCheck_zf : (pushCheck s).zf = s.zf := by unfold pushCheck; split <;> rfl
@[simp] theorem pushCheck_pf : (pushCheck s).pf = s.pf := by unfold pushCheck; split <;> rfl
@[simp] theorem pushCheck_cf : (pushCheck s).cf = s.cf := by unfold pushCheck; split <;> rfl
@[simp] theorem pushCheck_honorsMf : (pushCheck s).honorsMf = s.honorsMf := by unfold pushCheck; split <;> rfl
@[simp] theorem pushCheck_prot : (pushCheck s).prot = s.prot := by unfold pushCheck; split <;> rfl
@[simp] theorem pushCheck_opsize32 : (pushCheck s).opsize32 = s.opsize32 := by unfold pushCheck; split <;> rfl
@[simp] theorem pushCheck_trapReturns :
    (pushCheck s).trapReturns = s.trapReturns := by unfold pushCheck; split <;> rfl
@[simp] theorem pushCheck_guards : (pushCheck s).guards = s.guards := by unfold pushCheck; split <;> rfl
@[simp] theorem pushCheck_cycles : (pushCheck s).cycles = s.cycles := by unfold pushCheck; split <;> rfl
@[simp] theorem pushCheck_mfRequest : (pushCheck s).mfRequest = s.mfRequest := by unfold pushCheck; split <;> rfl
@[simp] theorem pushCheck_hostFault : (pushCheck s).hostFault = s.hostFault := by unfold pushCheck; split <;> rfl
@[simp] theorem pushCheck_portOut : (pushCheck s).portOut = s.portOut := by unfold pushCheck; split <;> rfl
@[simp] theorem pushCheck_stream : (pushCheck s).stream = s.stream := by unfold pushCheck; split <;> rfl
@[simp] theorem pushCheck_pos : (pushCheck s).pos = s.pos := by unfold pushCheck; split <;> rfl
@[simp] theorem pushCheck_params : (pushCheck s).params = s.params := by unfold pushCheck; split <;> rfl
@[simp] theorem pushCheck_free : (pushCheck s).free = s.free := by unfold pushCheck; split <;> rfl

/-! ### pushCommit -/

@[simp] theorem pushCommit_regs (v : Fx80) (t : BitVec 2) :
    (pushCommit v t s).regs = s.regs.set (s.top + 7).toNat v := rfl
@[simp] theorem pushCommit_cw (v : Fx80) (t : BitVec 2) : (pushCommit v t s).cw = s.cw := rfl
@[simp] theorem pushCommit_sw (v : Fx80) (t : BitVec 2) : (pushCommit v t s).sw = putTop s.sw (s.top + 7) := rfl
@[simp] theorem pushCommit_tw (v : Fx80) (t : BitVec 2) : (pushCommit v t s).tw = putTag s.tw (s.top + 7) t := rfl
@[simp] theorem pushCommit_fip (v : Fx80) (t : BitVec 2) : (pushCommit v t s).fip = s.fip := rfl
@[simp] theorem pushCommit_fdp (v : Fx80) (t : BitVec 2) : (pushCommit v t s).fdp = s.fdp := rfl
@[simp] theorem pushCommit_fop (v : Fx80) (t : BitVec 2) : (pushCommit v t s).fop = s.fop := rfl
@[simp] theorem pushCommit_fx (v : Fx80) (t : BitVec 2) : (pushCommit v t s).fx = s.fx := rfl
@[simp] theorem pushCommit_rm (v : Fx80) (t : BitVec 2) : (pushCommit v t s).rm = s.rm := rfl
@[simp] theorem pushCommit_mem (v : Fx80) (t : BitVec 2) : (pushCommit v t s).mem = s.mem := rfl
@[simp] theorem pushCommit_ax (v : Fx80) (t : BitVec 2) : (pushCommit v t s).ax = s.ax := rfl
@[simp] theorem pushCommit_zf (v : Fx80) (t : BitVec 2) : (pushCommit v t s).zf = s.zf := rfl
@[simp] theorem pushCommit_pf (v : Fx80) (t : BitVec 2) : (pushCommit v t s).pf = s.pf := rfl
@[simp] theorem pushCommit_cf (v : Fx80) (t : BitVec 2) : (pushCommit v t s).cf = s.cf := rfl
@[simp] theorem pushCommit_honorsMf (v : Fx80) (t : BitVec 2) : (pushCommit v t s).honorsMf = s.honorsMf := rfl
@[simp] theorem pushCommit_prot (v : Fx80) (t : BitVec 2) : (pushCommit v t s).prot = s.prot := rfl
@[simp] theorem pushCommit_opsize32 (v : Fx80) (t : BitVec 2) : (pushCommit v t s).opsize32 = s.opsize32 := rfl
@[simp] theorem pushCommit_trapReturns (v : Fx80) (t : BitVec 2) :
    (pushCommit v t s).trapReturns = s.trapReturns := rfl
@[simp] theorem pushCommit_guards (v : Fx80) (t : BitVec 2) : (pushCommit v t s).guards = s.guards := rfl
@[simp] theorem pushCommit_cycles (v : Fx80) (t : BitVec 2) : (pushCommit v t s).cycles = s.cycles := rfl
@[simp] theorem pushCommit_mfRequest (v : Fx80) (t : BitVec 2) : (pushCommit v t s).mfRequest = s.mfRequest := rfl
@[simp] theorem pushCommit_hostFault (v : Fx80) (t : BitVec 2) : (pushCommit v t s).hostFault = s.hostFault := rfl
@[simp] theorem pushCommit_portOut (v : Fx80) (t : BitVec 2) : (pushCommit v t s).portOut = s.portOut := rfl
@[simp] theorem pushCommit_stream (v : Fx80) (t : BitVec 2) : (pushCommit v t s).stream = s.stream := rfl
@[simp] theorem pushCommit_pos (v : Fx80) (t : BitVec 2) : (pushCommit v t s).pos = s.pos := rfl
@[simp] theorem pushCommit_params (v : Fx80) (t : BitVec 2) : (pushCommit v t s).params = s.params := rfl
@[simp] theorem pushCommit_free (v : Fx80) (t : BitVec 2) : (pushCommit v t s).free = s.free := rfl

/-! ### popMove -/

@[simp] theorem popMove_regs : (popMove s).regs = s.regs := rfl
@[simp] theorem popMove_cw : (popMove s).cw = s.cw := rfl
@[simp] theorem popMove_sw : (popMove s).sw = putTop s.sw (s.top + 1) := rfl
@[simp] theorem popMove_tw : (popMove s).tw = putTag s.tw s.top tagEmpty := rfl
@[simp] theorem popMove_fip : (popMove s).fip = s.fip := rfl
@[simp] theorem popMove_fdp : (popMove s).fdp = s.fdp := rfl
@[simp] theorem popMove_fop : (popMove s).fop = s.fop := rfl
@[simp] theorem popMove_fx : (popMove s).fx = s.fx := rfl
@[simp] theorem popMove_rm : (popMove s).rm = s.rm := rfl
@[simp] theorem popMove_mem : (popMove s).mem = s.mem := rfl
@[simp] theorem popMove_ax : (popMove s).ax = s.ax := rfl
@[simp] theorem popMove_zf : (popMove s).zf = s.zf := rfl
@[simp] theorem popMove_pf : (popMove s).pf = s.pf := rfl
@[simp] theorem popMove_cf : (popMove s).cf = s.cf := rfl
@[simp] theorem popMove_honorsMf : (popMove s).honorsMf = s.honorsMf := rfl
@[simp] theorem popMove_prot : (popMove s).prot = s.prot := rfl
@[simp] theorem popMove_opsize32 : (popMove s).opsize32 = s.opsize32 := rfl
@[simp] theorem popMove_trapReturns : (popMove s).trapReturns = s.trapReturns := rfl
@[simp] theorem popMove_guards : (popMove s).guards = s.guards := rfl
@[simp] theorem popMove_cycles : (popMove s).cycles = s.cycles := rfl
@[simp] theorem popMove_mfRequest : (popMove s).mfRequest = s.mfRequest := rfl
@[simp] theorem popMove_hostFault : (popMove s).hostFault = s.hostFault := rfl
@[simp] theorem popMove_portOut : (popMove s).portOut = s.portOut := rfl
@[simp] theorem popMove_stream : (popMove s).stream = s.stream := rfl
@[simp] theorem popMove_pos : (popMove s).pos = s.pos := rfl
@[simp] theorem popMove_params : (popMove s).params = s.params := rfl
@[simp] theorem popMove_free : (popMove s).free = s.free := rfl

/-! ### pop -/

@[simp] theorem pop_regs : (pop s).regs = s.regs := by unfold pop; split <;> (try split) <;> rfl
@[simp] theorem pop_cw : (pop s).cw = s.cw := by unfold pop; split <;> (try split) <;> rfl
@[simp] theorem pop_fip : (pop s).fip = s.fip := by unfold pop; split <;> (try split) <;> rfl
@[simp] theorem pop_fdp : (pop s).fdp = s.fdp := by unfold pop; split <;> (try split) <;> rfl
@[simp] theorem pop_fop : (pop s).fop = s.fop := by unfold pop; split <;> (try split) <;> rfl
@[simp] theorem pop_fx : (pop s).fx = s.fx := by unfold pop; split <;> (try split) <;> rfl
@[simp] theorem pop_rm : (pop s).rm = s.rm := by unfold pop; split <;> (try split) <;> rfl
@[simp] theorem pop_mem : (pop s).mem = s.mem := by unfold pop; split <;> (try split) <;> rfl
@[simp] theorem pop_ax : (pop s).ax = s.ax := by unfold pop; split <;> (try split) <;> rfl
@[simp] theorem pop_zf : (pop s).zf = s.zf := by unfold pop; split <;> (try split) <;> rfl
@[simp] theorem pop_pf : (pop s).pf = s.pf := by unfold pop; split <;> (try split) <;> rfl
@[simp] theorem pop_cf : (pop s).cf = s.cf := by unfold pop; split <;> (try split) <;> rfl
@[simp] theorem pop_honorsMf : (pop s).honorsMf = s.honorsMf := by unfold pop; split <;> (try split) <;> rfl
@[simp] theorem pop_prot : (pop s).prot = s.prot := by unfold pop; split <;> (try split) <;> rfl
@[simp] theorem pop_opsize32 : (pop s).opsize32 = s.opsize32 := by unfold pop; split <;> (try split) <;> rfl
@[simp] theorem pop_trapReturns : (pop s).trapReturns = s.trapReturns := by unfold pop; split <;> (try split) <;> rfl
@[simp] theorem pop_guards : (pop s).guards = s.guards := by unfold pop; split <;> (try split) <;> rfl
@[simp] theorem pop_cycles : (pop s).cycles = s.cycles := by unfold pop; split <;> (try split) <;> rfl
@[simp] theorem pop_mfRequest : (pop s).mfRequest = s.mfRequest := by unfold pop; split <;> (try split) <;> rfl
@[simp] theorem pop_hostFault : (pop s).hostFault = s.hostFault := by unfold pop; split <;> (try split) <;> rfl
@[simp] theorem pop_portOut : (pop s).portOut = s.portOut := by unfold pop; split <;> (try split) <;> rfl
@[simp] theorem pop_stream : (pop s).stream = s.stream := by unfold pop; split <;> (try split) <;> rfl
@[simp] theorem pop_pos : (pop s).pos = s.pos := by unfold pop; split <;> (try split) <;> rfl
@[simp] theorem pop_params : (pop s).params = s.params := by unfold pop; split <;> (try split) <;> rfl
@[simp] theorem pop_free : (pop s).free = s.free := by unfold pop; split <;> (try split) <;> rfl

/-! ### writeStack -/

@[simp] theorem writeStack_regs (i : Slot) (v : Fx80) : (writeStack i v s).regs = s.regs.set (s.phys i).toNat v := rfl
@[simp] theorem writeStack_cw (i : Slot) (v : Fx80) : (writeStack i v s).cw = s.cw := rfl
@[simp] theorem writeStack_sw (i : Slot) (v : Fx80) : (writeStack i v s).sw = s.sw := rfl
@[simp] theorem writeStack_tw (i : Slot) (v : Fx80) : (writeStack i v s).tw = putTag s.tw (s.phys i) (tagOf v) := rfl
@[simp] theorem writeStack_fip (i : Slot) (v : Fx80) : (writeStack i v s).fip = s.fip := rfl
@[simp] theorem writeStack_fdp (i : Slot) (v : Fx80) : (writeStack i v s).fdp = s.fdp := rfl
@[simp] theorem writeStack_fop (i : Slot) (v : Fx80) : (writeStack i v s).fop = s.fop := rfl
@[simp] theorem writeStack_fx (i : Slot) (v : Fx80) : (writeStack i v s).fx = s.fx := rfl
@[simp] theorem writeStack_rm (i : Slot) (v : Fx80) : (writeStack i v s).rm = s.rm := rfl
@[simp] theorem writeStack_mem (i : Slot) (v : Fx80) : (writeStack i v s).mem = s.mem := rfl
@[simp] theorem writeStack_ax (i : Slot) (v : Fx80) : (writeStack i v s).ax = s.ax := rfl
@[simp] theorem writeStack_zf (i : Slot) (v : Fx80) : (writeStack i v s).zf = s.zf := rfl
@[simp] theorem writeStack_pf (i : Slot) (v : Fx80) : (writeStack i v s).pf = s.pf := rfl
@[simp] theorem writeStack_cf (i : Slot) (v : Fx80) : (writeStack i v s).cf = s.cf := rfl
@[simp] theorem writeStack_honorsMf (i : Slot) (v : Fx80) : (writeStack i v s).honorsMf = s.honorsMf := rfl
@[simp] theorem writeStack_prot (i : Slot) (v : Fx80) : (writeStack i v s).prot = s.prot := rfl
@[simp] theorem writeStack_opsize32 (i : Slot) (v : Fx80) : (writeStack i v s).opsize32 = s.opsize32 := rfl
@[simp] theorem writeStack_trapReturns (i : Slot) (v : Fx80) : (writeStack i v s).trapReturns = s.trapReturns := rfl
@[simp] theorem writeStack_guards (i : Slot) (v : Fx80) : (writeStack i v s).guards = s.guards := rfl
@[simp] theorem writeStack_cycles (i : Slot) (v : Fx80) : (writeStack i v s).cycles = s.cycles := rfl
@[simp] theorem writeStack_mfRequest (i : Slot) (v : Fx80) : (writeStack i v s).mfRequest = s.mfRequest := rfl
@[simp] theorem writeStack_hostFault (i : Slot) (v : Fx80) : (writeStack i v s).hostFault = s.hostFault := rfl
@[simp] theorem writeStack_portOut (i : Slot) (v : Fx80) : (writeStack i v s).portOut = s.portOut := rfl
@[simp] theorem writeStack_stream (i : Slot) (v : Fx80) : (writeStack i v s).stream = s.stream := rfl
@[simp] theorem writeStack_pos (i : Slot) (v : Fx80) : (writeStack i v s).pos = s.pos := rfl
@[simp] theorem writeStack_params (i : Slot) (v : Fx80) : (writeStack i v s).params = s.params := rfl
@[simp] theorem writeStack_free (i : Slot) (v : Fx80) : (writeStack i v s).free = s.free := rfl

/-! ### writeCw -/

@[simp] theorem writeCw_regs (v : Word) : (writeCw v s).regs = s.regs := rfl
@[simp] theorem writeCw_cw (v : Word) : (writeCw v s).cw = v := rfl
@[simp] theorem writeCw_sw (v : Word) : (writeCw v s).sw = s.sw := rfl
@[simp] theorem writeCw_tw (v : Word) : (writeCw v s).tw = s.tw := rfl
@[simp] theorem writeCw_fip (v : Word) : (writeCw v s).fip = s.fip := rfl
@[simp] theorem writeCw_fdp (v : Word) : (writeCw v s).fdp = s.fdp := rfl
@[simp] theorem writeCw_fop (v : Word) : (writeCw v s).fop = s.fop := rfl
@[simp] theorem writeCw_fx (v : Word) : (writeCw v s).fx = s.fx := rfl
@[simp] theorem writeCw_rm (v : Word) : (writeCw v s).rm = rcTable (rcOf v) := rfl
@[simp] theorem writeCw_mem (v : Word) : (writeCw v s).mem = s.mem := rfl
@[simp] theorem writeCw_ax (v : Word) : (writeCw v s).ax = s.ax := rfl
@[simp] theorem writeCw_zf (v : Word) : (writeCw v s).zf = s.zf := rfl
@[simp] theorem writeCw_pf (v : Word) : (writeCw v s).pf = s.pf := rfl
@[simp] theorem writeCw_cf (v : Word) : (writeCw v s).cf = s.cf := rfl
@[simp] theorem writeCw_honorsMf (v : Word) : (writeCw v s).honorsMf = s.honorsMf := rfl
@[simp] theorem writeCw_prot (v : Word) : (writeCw v s).prot = s.prot := rfl
@[simp] theorem writeCw_opsize32 (v : Word) : (writeCw v s).opsize32 = s.opsize32 := rfl
@[simp] theorem writeCw_trapReturns (v : Word) : (writeCw v s).trapReturns = s.trapReturns := rfl
@[simp] theorem writeCw_guards (v : Word) : (writeCw v s).guards = s.guards := rfl
@[simp] theorem writeCw_cycles (v : Word) : (writeCw v s).cycles = s.cycles := rfl
@[simp] theorem writeCw_mfRequest (v : Word) : (writeCw v s).mfRequest = s.mfRequest := rfl
@[simp] theorem writeCw_hostFault (v : Word) : (writeCw v s).hostFault = s.hostFault := rfl
@[simp] theorem writeCw_portOut (v : Word) : (writeCw v s).portOut = s.portOut := rfl
@[simp] theorem writeCw_stream (v : Word) : (writeCw v s).stream = s.stream := rfl
@[simp] theorem writeCw_pos (v : Word) : (writeCw v s).pos = s.pos := rfl
@[simp] theorem writeCw_params (v : Word) : (writeCw v s).params = s.params := rfl
@[simp] theorem writeCw_free (v : Word) : (writeCw v s).free = s.free := rfl

/-! ### initFpu -/

@[simp] theorem initFpu_regs : (initFpu s).regs = s.regs := rfl
@[simp] theorem initFpu_cw : (initFpu s).cw = 0x037F#16 := rfl
@[simp] theorem initFpu_sw : (initFpu s).sw = 0x0000#16 := rfl
@[simp] theorem initFpu_tw : (initFpu s).tw = 0xFFFF#16 := rfl
@[simp] theorem initFpu_fip : (initFpu s).fip = 0#32 := rfl
@[simp] theorem initFpu_fdp : (initFpu s).fdp = 0#32 := rfl
@[simp] theorem initFpu_fop : (initFpu s).fop = 0#16 := rfl
@[simp] theorem initFpu_fx : (initFpu s).fx = s.fx := rfl
@[simp] theorem initFpu_rm : (initFpu s).rm = .rn := rfl
@[simp] theorem initFpu_mem : (initFpu s).mem = s.mem := rfl
@[simp] theorem initFpu_ax : (initFpu s).ax = s.ax := rfl
@[simp] theorem initFpu_zf : (initFpu s).zf = s.zf := rfl
@[simp] theorem initFpu_pf : (initFpu s).pf = s.pf := rfl
@[simp] theorem initFpu_cf : (initFpu s).cf = s.cf := rfl
@[simp] theorem initFpu_honorsMf : (initFpu s).honorsMf = s.honorsMf := rfl
@[simp] theorem initFpu_prot : (initFpu s).prot = s.prot := rfl
@[simp] theorem initFpu_opsize32 : (initFpu s).opsize32 = s.opsize32 := rfl
@[simp] theorem initFpu_trapReturns : (initFpu s).trapReturns = s.trapReturns := rfl
@[simp] theorem initFpu_guards : (initFpu s).guards = s.guards := rfl
@[simp] theorem initFpu_cycles : (initFpu s).cycles = s.cycles := rfl
@[simp] theorem initFpu_mfRequest : (initFpu s).mfRequest = s.mfRequest := rfl
@[simp] theorem initFpu_hostFault : (initFpu s).hostFault = s.hostFault := rfl
@[simp] theorem initFpu_portOut : (initFpu s).portOut = s.portOut := rfl
@[simp] theorem initFpu_stream : (initFpu s).stream = s.stream := rfl
@[simp] theorem initFpu_pos : (initFpu s).pos = s.pos := rfl
@[simp] theorem initFpu_params : (initFpu s).params = s.params := rfl
@[simp] theorem initFpu_free : (initFpu s).free = s.free := rfl

/-! ### resetFpu -/

@[simp] theorem resetFpu_regs : (resetFpu s).regs = s.regs := rfl
@[simp] theorem resetFpu_cw : (resetFpu s).cw = 0x037F#16 := rfl
@[simp] theorem resetFpu_sw : (resetFpu s).sw = 0x0000#16 := rfl
@[simp] theorem resetFpu_tw : (resetFpu s).tw = 0xFFFF#16 := rfl
@[simp] theorem resetFpu_fip : (resetFpu s).fip = 0#32 := rfl
@[simp] theorem resetFpu_fdp : (resetFpu s).fdp = 0#32 := rfl
@[simp] theorem resetFpu_fop : (resetFpu s).fop = 0#16 := rfl
@[simp] theorem resetFpu_fx : (resetFpu s).fx = KFlags.empty := rfl
@[simp] theorem resetFpu_rm : (resetFpu s).rm = .rn := rfl
@[simp] theorem resetFpu_mem : (resetFpu s).mem = s.mem := rfl
@[simp] theorem resetFpu_ax : (resetFpu s).ax = s.ax := rfl
@[simp] theorem resetFpu_zf : (resetFpu s).zf = s.zf := rfl
@[simp] theorem resetFpu_pf : (resetFpu s).pf = s.pf := rfl
@[simp] theorem resetFpu_cf : (resetFpu s).cf = s.cf := rfl
@[simp] theorem resetFpu_honorsMf : (resetFpu s).honorsMf = s.honorsMf := rfl
@[simp] theorem resetFpu_prot : (resetFpu s).prot = s.prot := rfl
@[simp] theorem resetFpu_opsize32 : (resetFpu s).opsize32 = s.opsize32 := rfl
@[simp] theorem resetFpu_trapReturns : (resetFpu s).trapReturns = s.trapReturns := rfl
@[simp] theorem resetFpu_guards : (resetFpu s).guards = s.guards := rfl
@[simp] theorem resetFpu_cycles : (resetFpu s).cycles = s.cycles := rfl
@[simp] theorem resetFpu_mfRequest : (resetFpu s).mfRequest = s.mfRequest := rfl
@[simp] theorem resetFpu_hostFault : (resetFpu s).hostFault = s.hostFault := rfl
@[simp] theorem resetFpu_portOut : (resetFpu s).portOut = s.portOut := rfl
@[simp] theorem resetFpu_stream : (resetFpu s).stream = s.stream := rfl
@[simp] theorem resetFpu_pos : (resetFpu s).pos = s.pos := rfl
@[simp] theorem resetFpu_params : (resetFpu s).params = s.params := rfl
@[simp] theorem resetFpu_free : (resetFpu s).free = s.free := rfl

/-! ### drainFx -/

@[simp] theorem drainFx_regs : (drainFx s).regs = s.regs := by simp [drainFx]
@[simp] theorem drainFx_cw : (drainFx s).cw = s.cw := by simp [drainFx]
@[simp] theorem drainFx_tw : (drainFx s).tw = s.tw := by simp [drainFx]
@[simp] theorem drainFx_fip : (drainFx s).fip = s.fip := by simp [drainFx]
@[simp] theorem drainFx_fdp : (drainFx s).fdp = s.fdp := by simp [drainFx]
@[simp] theorem drainFx_fop : (drainFx s).fop = s.fop := by simp [drainFx]
@[simp] theorem drainFx_fx : (drainFx s).fx = KFlags.empty := by simp [drainFx]
@[simp] theorem drainFx_rm : (drainFx s).rm = s.rm := by simp [drainFx]
@[simp] theorem drainFx_mem : (drainFx s).mem = s.mem := by simp [drainFx]
@[simp] theorem drainFx_ax : (drainFx s).ax = s.ax := by simp [drainFx]
@[simp] theorem drainFx_zf : (drainFx s).zf = s.zf := by simp [drainFx]
@[simp] theorem drainFx_pf : (drainFx s).pf = s.pf := by simp [drainFx]
@[simp] theorem drainFx_cf : (drainFx s).cf = s.cf := by simp [drainFx]
@[simp] theorem drainFx_honorsMf : (drainFx s).honorsMf = s.honorsMf := by simp [drainFx]
@[simp] theorem drainFx_prot : (drainFx s).prot = s.prot := by simp [drainFx]
@[simp] theorem drainFx_opsize32 : (drainFx s).opsize32 = s.opsize32 := by simp [drainFx]
@[simp] theorem drainFx_trapReturns : (drainFx s).trapReturns = s.trapReturns := by simp [drainFx]
@[simp] theorem drainFx_guards : (drainFx s).guards = s.guards := by simp [drainFx]
@[simp] theorem drainFx_cycles : (drainFx s).cycles = s.cycles := by simp [drainFx]
@[simp] theorem drainFx_mfRequest : (drainFx s).mfRequest = s.mfRequest := by simp [drainFx]
@[simp] theorem drainFx_hostFault : (drainFx s).hostFault = s.hostFault := by simp [drainFx]
@[simp] theorem drainFx_portOut : (drainFx s).portOut = s.portOut := by simp [drainFx]
@[simp] theorem drainFx_stream : (drainFx s).stream = s.stream := by simp [drainFx]
@[simp] theorem drainFx_pos : (drainFx s).pos = s.pos := by simp [drainFx]
@[simp] theorem drainFx_params : (drainFx s).params = s.params := by simp [drainFx]
@[simp] theorem drainFx_free : (drainFx s).free = s.free := by simp [drainFx]

/-! ### raiseMf -/

@[simp] theorem raiseMf_regs : (raiseMf s).regs = s.regs := by unfold raiseMf; split <;> simp_all
@[simp] theorem raiseMf_cw : (raiseMf s).cw = s.cw := by unfold raiseMf; split <;> simp_all
@[simp] theorem raiseMf_sw : (raiseMf s).sw = s.sw := by unfold raiseMf; split <;> simp_all
@[simp] theorem raiseMf_tw : (raiseMf s).tw = s.tw := by unfold raiseMf; split <;> simp_all
@[simp] theorem raiseMf_fip : (raiseMf s).fip = s.fip := by unfold raiseMf; split <;> simp_all
@[simp] theorem raiseMf_fdp : (raiseMf s).fdp = s.fdp := by unfold raiseMf; split <;> simp_all
@[simp] theorem raiseMf_fop : (raiseMf s).fop = s.fop := by unfold raiseMf; split <;> simp_all
@[simp] theorem raiseMf_fx : (raiseMf s).fx = s.fx := by unfold raiseMf; split <;> simp_all
@[simp] theorem raiseMf_rm : (raiseMf s).rm = s.rm := by unfold raiseMf; split <;> simp_all
@[simp] theorem raiseMf_mem : (raiseMf s).mem = s.mem := by unfold raiseMf; split <;> simp_all
@[simp] theorem raiseMf_ax : (raiseMf s).ax = s.ax := by unfold raiseMf; split <;> simp_all
@[simp] theorem raiseMf_zf : (raiseMf s).zf = s.zf := by unfold raiseMf; split <;> simp_all
@[simp] theorem raiseMf_pf : (raiseMf s).pf = s.pf := by unfold raiseMf; split <;> simp_all
@[simp] theorem raiseMf_cf : (raiseMf s).cf = s.cf := by unfold raiseMf; split <;> simp_all
@[simp] theorem raiseMf_honorsMf : (raiseMf s).honorsMf = s.honorsMf := by unfold raiseMf; split <;> simp_all
@[simp] theorem raiseMf_prot : (raiseMf s).prot = s.prot := by unfold raiseMf; split <;> simp_all
@[simp] theorem raiseMf_opsize32 : (raiseMf s).opsize32 = s.opsize32 := by unfold raiseMf; split <;> simp_all
@[simp] theorem raiseMf_trapReturns : (raiseMf s).trapReturns = s.trapReturns := by unfold raiseMf; split <;> simp_all
@[simp] theorem raiseMf_guards : (raiseMf s).guards = s.guards := by unfold raiseMf; split <;> simp_all
@[simp] theorem raiseMf_cycles : (raiseMf s).cycles = s.cycles := by unfold raiseMf; split <;> simp_all
@[simp] theorem raiseMf_mfRequest :
    (raiseMf s).mfRequest = (s.honorsMf || s.mfRequest) := by unfold raiseMf; split <;> simp_all
@[simp] theorem raiseMf_hostFault : (raiseMf s).hostFault = s.hostFault := by unfold raiseMf; split <;> simp_all
@[simp] theorem raiseMf_portOut : (raiseMf s).portOut = s.portOut := by unfold raiseMf; split <;> simp_all
@[simp] theorem raiseMf_stream : (raiseMf s).stream = s.stream := by unfold raiseMf; split <;> simp_all
@[simp] theorem raiseMf_pos : (raiseMf s).pos = s.pos := by unfold raiseMf; split <;> simp_all
@[simp] theorem raiseMf_params : (raiseMf s).params = s.params := by unfold raiseMf; split <;> simp_all
@[simp] theorem raiseMf_free : (raiseMf s).free = s.free := by unfold raiseMf; split <;> simp_all

/-! ### checkExceptions -/

@[simp] theorem checkExceptions_regs :
    (checkExceptions s).regs = s.regs := by simp only [checkExceptions]; split <;> simp_all
@[simp] theorem checkExceptions_cw :
    (checkExceptions s).cw = s.cw := by simp only [checkExceptions]; split <;> simp_all
@[simp] theorem checkExceptions_sw :
    (checkExceptions s).sw = putBit (drainFx s).sw bitES (drainFx s).pending := by
  simp only [checkExceptions]; split <;> simp_all
@[simp] theorem checkExceptions_tw :
    (checkExceptions s).tw = s.tw := by simp only [checkExceptions]; split <;> simp_all
@[simp] theorem checkExceptions_fip :
    (checkExceptions s).fip = s.fip := by simp only [checkExceptions]; split <;> simp_all
@[simp] theorem checkExceptions_fdp :
    (checkExceptions s).fdp = s.fdp := by simp only [checkExceptions]; split <;> simp_all
@[simp] theorem checkExceptions_fop :
    (checkExceptions s).fop = s.fop := by simp only [checkExceptions]; split <;> simp_all
@[simp] theorem checkExceptions_fx :
    (checkExceptions s).fx = KFlags.empty := by simp only [checkExceptions]; split <;> simp_all
@[simp] theorem checkExceptions_rm :
    (checkExceptions s).rm = s.rm := by simp only [checkExceptions]; split <;> simp_all
@[simp] theorem checkExceptions_mem :
    (checkExceptions s).mem = s.mem := by simp only [checkExceptions]; split <;> simp_all
@[simp] theorem checkExceptions_ax :
    (checkExceptions s).ax = s.ax := by simp only [checkExceptions]; split <;> simp_all
@[simp] theorem checkExceptions_zf :
    (checkExceptions s).zf = s.zf := by simp only [checkExceptions]; split <;> simp_all
@[simp] theorem checkExceptions_pf :
    (checkExceptions s).pf = s.pf := by simp only [checkExceptions]; split <;> simp_all
@[simp] theorem checkExceptions_cf :
    (checkExceptions s).cf = s.cf := by simp only [checkExceptions]; split <;> simp_all
@[simp] theorem checkExceptions_honorsMf :
    (checkExceptions s).honorsMf = s.honorsMf := by simp only [checkExceptions]; split <;> simp_all
@[simp] theorem checkExceptions_prot :
    (checkExceptions s).prot = s.prot := by simp only [checkExceptions]; split <;> simp_all
@[simp] theorem checkExceptions_opsize32 :
    (checkExceptions s).opsize32 = s.opsize32 := by simp only [checkExceptions]; split <;> simp_all
@[simp] theorem checkExceptions_trapReturns :
    (checkExceptions s).trapReturns = s.trapReturns := by simp only [checkExceptions]; split <;> simp_all
@[simp] theorem checkExceptions_guards :
    (checkExceptions s).guards = s.guards := by simp only [checkExceptions]; split <;> simp_all
@[simp] theorem checkExceptions_cycles :
    (checkExceptions s).cycles = s.cycles := by simp only [checkExceptions]; split <;> simp_all
@[simp] theorem checkExceptions_mfRequest :
    (checkExceptions s).mfRequest = ((drainFx s).pending && s.honorsMf || s.mfRequest) := by
  simp only [checkExceptions]; split <;> simp_all
@[simp] theorem checkExceptions_hostFault :
    (checkExceptions s).hostFault = s.hostFault := by simp only [checkExceptions]; split <;> simp_all
@[simp] theorem checkExceptions_portOut :
    (checkExceptions s).portOut = s.portOut := by simp only [checkExceptions]; split <;> simp_all
@[simp] theorem checkExceptions_stream :
    (checkExceptions s).stream = s.stream := by simp only [checkExceptions]; split <;> simp_all
@[simp] theorem checkExceptions_pos :
    (checkExceptions s).pos = s.pos := by simp only [checkExceptions]; split <;> simp_all
@[simp] theorem checkExceptions_params :
    (checkExceptions s).params = s.params := by simp only [checkExceptions]; split <;> simp_all
@[simp] theorem checkExceptions_free :
    (checkExceptions s).free = s.free := by simp only [checkExceptions]; split <;> simp_all

/-! ### skipFree -/

@[simp] theorem skipFree_regs : (skipFree s).regs = s.regs := rfl
@[simp] theorem skipFree_cw : (skipFree s).cw = s.cw := rfl
@[simp] theorem skipFree_sw : (skipFree s).sw = s.sw := rfl
@[simp] theorem skipFree_tw : (skipFree s).tw = s.tw := rfl
@[simp] theorem skipFree_fip : (skipFree s).fip = s.fip := rfl
@[simp] theorem skipFree_fdp : (skipFree s).fdp = s.fdp := rfl
@[simp] theorem skipFree_fop : (skipFree s).fop = s.fop := rfl
@[simp] theorem skipFree_fx : (skipFree s).fx = s.fx := rfl
@[simp] theorem skipFree_rm : (skipFree s).rm = s.rm := rfl
@[simp] theorem skipFree_mem : (skipFree s).mem = s.mem := rfl
@[simp] theorem skipFree_ax : (skipFree s).ax = s.ax := rfl
@[simp] theorem skipFree_zf : (skipFree s).zf = s.zf := rfl
@[simp] theorem skipFree_pf : (skipFree s).pf = s.pf := rfl
@[simp] theorem skipFree_cf : (skipFree s).cf = s.cf := rfl
@[simp] theorem skipFree_honorsMf : (skipFree s).honorsMf = s.honorsMf := rfl
@[simp] theorem skipFree_prot : (skipFree s).prot = s.prot := rfl
@[simp] theorem skipFree_opsize32 : (skipFree s).opsize32 = s.opsize32 := rfl
@[simp] theorem skipFree_trapReturns : (skipFree s).trapReturns = s.trapReturns := rfl
@[simp] theorem skipFree_guards : (skipFree s).guards = s.guards := rfl
@[simp] theorem skipFree_cycles : (skipFree s).cycles = s.cycles := rfl
@[simp] theorem skipFree_mfRequest : (skipFree s).mfRequest = s.mfRequest := rfl
@[simp] theorem skipFree_hostFault : (skipFree s).hostFault = s.hostFault := rfl
@[simp] theorem skipFree_portOut : (skipFree s).portOut = s.portOut := rfl
@[simp] theorem skipFree_stream : (skipFree s).stream = s.stream := rfl
@[simp] theorem skipFree_pos : (skipFree s).pos = s.pos := rfl
@[simp] theorem skipFree_params : (skipFree s).params = s.params := rfl
@[simp] theorem skipFree_free : (skipFree s).free = s.free + 1 := rfl

/-! ### addFreeFlags -/

@[simp] theorem addFreeFlags_regs : (addFreeFlags s).regs = s.regs := rfl
@[simp] theorem addFreeFlags_cw : (addFreeFlags s).cw = s.cw := rfl
@[simp] theorem addFreeFlags_sw : (addFreeFlags s).sw = s.sw := rfl
@[simp] theorem addFreeFlags_tw : (addFreeFlags s).tw = s.tw := rfl
@[simp] theorem addFreeFlags_fip : (addFreeFlags s).fip = s.fip := rfl
@[simp] theorem addFreeFlags_fdp : (addFreeFlags s).fdp = s.fdp := rfl
@[simp] theorem addFreeFlags_fop : (addFreeFlags s).fop = s.fop := rfl
@[simp] theorem addFreeFlags_fx : (addFreeFlags s).fx = s.fx.union (flagsOfBits (drawn 5 s)) := rfl
@[simp] theorem addFreeFlags_rm : (addFreeFlags s).rm = s.rm := rfl
@[simp] theorem addFreeFlags_mem : (addFreeFlags s).mem = s.mem := rfl
@[simp] theorem addFreeFlags_ax : (addFreeFlags s).ax = s.ax := rfl
@[simp] theorem addFreeFlags_zf : (addFreeFlags s).zf = s.zf := rfl
@[simp] theorem addFreeFlags_pf : (addFreeFlags s).pf = s.pf := rfl
@[simp] theorem addFreeFlags_cf : (addFreeFlags s).cf = s.cf := rfl
@[simp] theorem addFreeFlags_honorsMf : (addFreeFlags s).honorsMf = s.honorsMf := rfl
@[simp] theorem addFreeFlags_prot : (addFreeFlags s).prot = s.prot := rfl
@[simp] theorem addFreeFlags_opsize32 : (addFreeFlags s).opsize32 = s.opsize32 := rfl
@[simp] theorem addFreeFlags_trapReturns : (addFreeFlags s).trapReturns = s.trapReturns := rfl
@[simp] theorem addFreeFlags_guards : (addFreeFlags s).guards = s.guards := rfl
@[simp] theorem addFreeFlags_cycles : (addFreeFlags s).cycles = s.cycles := rfl
@[simp] theorem addFreeFlags_mfRequest : (addFreeFlags s).mfRequest = s.mfRequest := rfl
@[simp] theorem addFreeFlags_hostFault : (addFreeFlags s).hostFault = s.hostFault := rfl
@[simp] theorem addFreeFlags_portOut : (addFreeFlags s).portOut = s.portOut := rfl
@[simp] theorem addFreeFlags_stream : (addFreeFlags s).stream = s.stream := rfl
@[simp] theorem addFreeFlags_pos : (addFreeFlags s).pos = s.pos := rfl
@[simp] theorem addFreeFlags_params : (addFreeFlags s).params = s.params := rfl
@[simp] theorem addFreeFlags_free : (addFreeFlags s).free = s.free + 1 := rfl

end Sys2Proof.Machine
end

