-- ==== Sys2Proof/Laws/Funnel.lean ====
section
/-! SUPPORT. What the exception funnel and the stack primitives can do, said once: the status word in masks, the funnel's
two outcomes, the push, the pop, the commit writes. -/

namespace Sys2Proof.Machine

/-! ## SW in masks -/

/-- A set bit as a mask. -/
theorem putBit_true (w : Word) (n : Nat) : putBit w n true = w ||| BitVec.twoPow 16 n := rfl

/-- A cleared bit as a mask. -/
theorem putBit_false (w : Word) (n : Nat) : putBit w n false = w &&& ~~~BitVec.twoPow 16 n := rfl

theorem setStackUnderflow_mask (s : State) : (setStackUnderflow s).sw = underflowed s.sw := by
  simp only [setStackUnderflow_sw, putBit_true, putBit_false, underflowed]
  rw [BitVec.or_assoc]
  rfl

theorem setStackOverflow_mask (s : State) : (setStackOverflow s).sw = overflowed s.sw := by
  simp only [setStackOverflow_sw, putBit_true, overflowed]
  rw [BitVec.or_assoc, BitVec.or_assoc]
  rfl

theorem checkOperands_mask (is : List Slot) (s : State) :
    (checkOperands is s).sw = if s.anyEmpty is then underflowed s.sw else s.sw := by
  rw [checkOperands_sw, setStackUnderflow_mask]

theorem pushCheck_mask (s : State) : (pushCheck s).sw = if s.full then overflowed s.sw else s.sw := by
  rw [pushCheck_sw, setStackOverflow_mask]

theorem latch_IE_mask (s : State) : (latch bitIE s).sw = invalidated s.sw := rfl

/-- The drained state. -/
theorem drainFx_eq (s : State) : drainFx s = { s with fx := KFlags.empty, sw := s.sw ||| latchMask s.fx } := by
  obtain ⟨regs, cw, sw, tw, fip, fdp, fop, ⟨i, z, o, u, p⟩⟩ := s
  cases i <;> cases z <;> cases o <;> cases u <;> cases p <;>
    simp [drainFx, latchIf, latch, putBit_true, latchMask, BitVec.or_assoc] <;> rfl

theorem drainFx_mask (s : State) : (drainFx s).sw = s.sw ||| latchMask s.fx := by rw [drainFx_eq]

/-! ## The funnel -/

/-- ES is none of the six latches. -/
theorem pendingOf_clearES (cw sw : Word) : pendingOf cw (sw &&& 0xFF7F#16) = pendingOf cw sw := by
  have h : low6 (sw &&& 0xFF7F#16) = low6 sw := low6_putBit sw 7 false (by decide)
  rw [pendingOf, pendingOf, h]

theorem pendingOf_setES (cw sw : Word) : pendingOf cw (sw ||| 0x0080#16) = pendingOf cw sw := by
  have h : low6 (sw ||| 0x0080#16) = low6 sw := low6_putBit sw 7 true (by decide)
  rw [pendingOf, pendingOf, h]

/-- The funnel's two outcomes: with nothing pending the commit runs, else the instruction is suppressed
(40_kernel_and_protocol.md R165, R172). -/
theorem funnel_spec (c : State → Ended) (s : State) :
    funnel c s = if pendingOf s.cw (s.sw ||| latchMask s.fx) = 0#6
      then c { s with fx := KFlags.empty, sw := (s.sw ||| latchMask s.fx) &&& 0xFF7F#16 }
      else afterRequest (suppressed { s with fx := KFlags.empty } (s.sw ||| latchMask s.fx)) := by
  generalize hw : s.sw ||| latchMask s.fx = w
  by_cases h : pendingOf s.cw w = 0#6
  · have he : checkExceptions s = { s with fx := KFlags.empty, sw := w &&& 0xFF7F#16 } := by
      simp only [checkExceptions, drainFx_eq, State.pending, hw, h]
      rfl
    simp [funnel, he, State.pending, pendingOf_clearES, h]
  · have he : checkExceptions s = suppressed { s with fx := KFlags.empty } w := by
      have hb : (pendingOf s.cw w != 0#6) = true := by simpa using h
      cases hm : s.honorsMf <;>
        simp [checkExceptions, drainFx_eq, State.pending, hw, hb, putBit_true, raiseMf, hm, suppressed] <;> rfl
    simp [funnel, he, State.pending, suppressed, pendingOf_setES, h]

/-- The cycle report after a failed funnel: lost where the math fault leaves the block (70_reset_and_hazards.md R553). -/
theorem finish_afterRequest (i : Instr) (s : State) : finish i (afterRequest s) = .next (afterTrap i s) := by
  cases hm : s.honorsMf <;> cases ht : s.trapReturns <;>
    simp [finish, afterRequest, State.trapLeaves, afterTrap, charged, hm, ht]

end Sys2Proof.Machine
end

