-- ==== Sys2Proof/Laws/Memory.lean ====
section
/-! SUPPORT. The laws of memory: a read after a write, the canonical form kept by every operation, and multi-byte items. -/

namespace Sys2Proof.Machine

/-- `find?` in a list with one key dropped. -/
theorem find_filter_other (mem : Memory) (k j : Nat) (h : j ≠ k) :
    (mem.filter (fun c => c.1 != k)).find? (fun c => c.1 == j) = mem.find? (fun c => c.1 == j) := by
  rw [List.find?_filter]
  congr 1
  funext c
  by_cases hj : c.1 = j
  · simp [hj, h]
  · simp [hj]

/-- A dropped key is not found. -/
theorem find_filter_same (mem : Memory) (k : Nat) :
    (mem.filter (fun c => c.1 != k)).find? (fun c => c.1 == k) = none := by
  simp [List.find?_eq_none]

/-- Another key in a list with a cell put in its place. -/
theorem find_insert_other (c : Host.Cell) (mem : Memory) (j : Nat) (h : j ≠ c.1) :
    (Memory.insert c mem).find? (fun d => d.1 == j) = mem.find? (fun d => d.1 == j) := by
  induction mem with
  | nil => simp [Memory.insert, Ne.symm h]
  | cons d rest ih =>
    simp only [Memory.insert]
    split
    · simp [List.find?_cons, Ne.symm h]
    · simp [List.find?_cons, ih]

/-- A cell put in its place is found, in a list without its key. -/
theorem find_insert_same (c : Host.Cell) (mem : Memory) (h : mem.find? (fun d => d.1 == c.1) = none) :
    (Memory.insert c mem).find? (fun d => d.1 == c.1) = some c := by
  induction mem with
  | nil => simp [Memory.insert]
  | cons d rest ih =>
    simp only [Memory.insert]
    have hd : (d.1 == c.1) = false := by
      simp only [List.find?_eq_none, List.mem_cons, forall_eq_or_imp] at h
      simpa using h.1
    have hr : rest.find? (fun d => d.1 == c.1) = none := by
      simp only [List.find?_eq_none, List.mem_cons, forall_eq_or_imp] at h ⊢
      exact h.2
    split
    · simp
    · simp [hd, ih hr]

/-- The byte written is the byte read. -/
@[simp] theorem Memory.read_write_same (mem : Memory) (a : Addr) (b : Byte) : (mem.write a b).read a = b := by
  by_cases h : b = Memory.background
  · simp only [Memory.write, Memory.read, if_pos h, find_filter_same]
    exact h.symm
  · simp only [Memory.write, Memory.read, if_neg h]
    rw [find_insert_same (a.toNat, b) _ (find_filter_same mem a.toNat)]

/-- A write leaves every other address alone. -/
theorem Memory.read_write_other (mem : Memory) (a c : Addr) (b : Byte) (h : c ≠ a) :
    (mem.write a b).read c = mem.read c := by
  have hn : c.toNat ≠ a.toNat := fun e => h (BitVec.eq_of_toNat_eq e)
  by_cases hb : b = Memory.background
  · simp only [Memory.write, Memory.read, if_pos hb]
    rw [find_filter_other _ _ _ hn]
  · simp only [Memory.write, Memory.read, if_neg hb]
    rw [find_insert_other _ _ _ hn, find_filter_other _ _ _ hn]

/-- A read after one write. -/
theorem Memory.read_write (mem : Memory) (a c : Addr) (b : Byte) :
    (mem.write a b).read c = if c = a then b else mem.read c := by
  split
  · next h => subst h; simp
  · next h => exact Memory.read_write_other mem a c b h

/-! ## The canonical form -/

/-- The form as a proposition on pairs. -/
theorem Memory.sorted_iff (mem : Memory) : mem.sorted = true ↔ mem.Pairwise (fun c d => c.1 < d.1) := by
  induction mem with
  | nil => simp [Memory.sorted]
  | cons c rest ih =>
    cases rest with
    | nil => simp [Memory.sorted]
    | cons d rest =>
      simp only [Memory.sorted, Bool.and_eq_true, decide_eq_true_eq, ih, List.pairwise_cons, List.mem_cons,
        forall_eq_or_imp]
      constructor
      · rintro ⟨h, h1, h2⟩
        exact ⟨⟨h, fun e he => Nat.lt_trans h (h1 e he)⟩, h1, h2⟩
      · rintro ⟨⟨h, _⟩, h1, h2⟩
        exact ⟨h, h1, h2⟩

/-- The cells of a list with a cell put in its place. -/
theorem Memory.mem_insert (c d : Host.Cell) (mem : Memory) : d ∈ Memory.insert c mem ↔ d = c ∨ d ∈ mem := by
  induction mem with
  | nil => simp [Memory.insert]
  | cons e rest ih =>
    simp only [Memory.insert]
    split
    · simp
    · simp only [List.mem_cons, ih]
      tauto

/-- A cell put in its place keeps the order, in a list without its key. -/
theorem Memory.pairwise_insert (c : Host.Cell) (mem : Memory) (h : mem.Pairwise (fun c d => c.1 < d.1))
    (hc : ∀ d ∈ mem, d.1 ≠ c.1) : (Memory.insert c mem).Pairwise (fun c d => c.1 < d.1) := by
  induction mem with
  | nil => simp [Memory.insert]
  | cons d rest ih =>
    simp only [Memory.insert]
    rw [List.pairwise_cons] at h
    split
    · next hlt =>
      refine List.pairwise_cons.mpr ⟨?_, List.pairwise_cons.mpr h⟩
      intro e he
      rcases List.mem_cons.mp he with rfl | he
      · exact hlt
      · exact Nat.lt_trans hlt (h.1 e he)
    · next hlt =>
      refine List.pairwise_cons.mpr ⟨?_, ih h.2 fun e he => hc e (List.mem_cons_of_mem _ he)⟩
      intro e he
      rcases (Memory.mem_insert _ _ _).mp he with rfl | he
      · have := hc d (List.mem_cons_self ..)
        omega
      · exact h.1 e he

/-- A write keeps the canonical form. -/
theorem Memory.wf_write (mem : Memory) (a : Addr) (b : Byte) (h : mem.wf = true) : (mem.write a b).wf = true := by
  simp only [Memory.wf, Bool.and_eq_true, Memory.sorted_iff, List.all_eq_true, decide_eq_true_eq, bne_iff_ne, ne_eq]
    at h ⊢
  obtain ⟨hs, hm⟩ := h
  have hf : (mem.filter (fun c => c.1 != a.toNat)).Pairwise (fun c d => c.1 < d.1) := hs.filter _
  simp only [Memory.write]
  split
  · exact ⟨hf, fun c hc => hm c (List.mem_of_mem_filter hc)⟩
  · next hb =>
    refine ⟨Memory.pairwise_insert _ _ hf ?_, ?_⟩
    · intro d hd
      simpa using (List.mem_filter.mp hd).2
    · intro c hc
      rcases (Memory.mem_insert _ _ _).mp hc with rfl | hc
      · exact ⟨a.isLt, hb⟩
      · exact hm c (List.mem_of_mem_filter hc)

/-- A multi-byte write keeps the canonical form. -/
theorem Memory.wf_writeLE (n : Nat) (mem : Memory) (a : Addr) (v : Nat) (h : mem.wf = true) :
    (mem.writeLE n a v).wf = true := by
  induction n generalizing mem a v with
  | zero => exact h
  | succ n ih => exact ih _ _ _ (Memory.wf_write mem a _ h)

/-! ## Items of several bytes -/

/-- Which addresses the `n + 1` bytes from `a` are. -/
theorem inBytes_succ (a c : Addr) (n : Nat) :
    inBytes a (n + 1) c = (decide (c = a) || inBytes (a + 1) n c) := by
  by_cases h : c = a
  · simp [inBytes, h]
  · have hne : (c - a).toNat ≠ 0 := by
      intro h0
      apply h
      have h1 : c - a = 0#32 := BitVec.eq_of_toNat_eq (by simpa using h0)
      have h2 : c - a + a = 0#32 + a := by rw [h1]
      simpa using h2
    have hs : (c - (a + 1)).toNat = (c - a).toNat - 1 := by
      have e : c - (a + 1) = c - a - 1 := by
        apply BitVec.eq_of_toNat_eq
        simp only [BitVec.toNat_sub, BitVec.toNat_add]
        omega
      have hl := (c - a).isLt
      rw [e, BitVec.toNat_sub]
      generalize (c - a).toNat = d at hne hl ⊢
      have h1 : (1 : Addr).toNat = 1 := rfl
      rw [h1]
      omega
    simp only [inBytes, hs, h, decide_false, Bool.false_or]
    congr 1
    apply propext
    omega

/-- A multi-byte write leaves every address outside its bytes alone. -/
theorem Memory.read_writeLE_outside (n : Nat) (mem : Memory) (a c : Addr) (v : Nat) (hn : n < 2 ^ 32)
    (h : inBytes a n c = false) : (mem.writeLE n a v).read c = mem.read c := by
  induction n generalizing mem a v with
  | zero => rfl
  | succ n ih =>
    rw [inBytes_succ a c n] at h
    simp only [Bool.or_eq_false_iff, decide_eq_false_iff_not] at h
    rw [Memory.writeLE, ih _ _ _ (by omega) h.2, Memory.read_write_other _ _ _ _ h.1]

/-- The first of `n` bytes is not among the bytes after it. -/
theorem not_inBytes_next (a : Addr) (n : Nat) (hn : n < 2 ^ 32) : inBytes (a + 1) n a = false := by
  have e : (a - (a + 1)).toNat = 2 ^ 32 - 1 := by
    simp only [BitVec.toNat_sub, BitVec.toNat_add]
    have := a.isLt
    simp
    omega
  simp only [inBytes, e, decide_eq_false_iff_not]
  omega

/-- What a multi-byte write stored is what a multi-byte read gives. -/
theorem Memory.readLE_writeLE (n : Nat) (mem : Memory) (a : Addr) (v : Nat) (hn : n < 2 ^ 32) :
    (mem.writeLE n a v).readLE n a = v % 256 ^ n := by
  induction n generalizing mem a v with
  | zero => simp [Memory.readLE, Nat.mod_one]
  | succ n ih =>
    rw [Memory.writeLE, Memory.readLE, ih _ _ _ (by omega),
      Memory.read_writeLE_outside _ _ _ _ _ (by omega) (not_inBytes_next a n (by omega)), Memory.read_write_same]
    simp only [BitVec.toNat_ofNat, Nat.reducePow]
    rw [Nat.pow_succ, Nat.mul_comm (256 ^ n), Nat.mod_mul]

/-- A multi-byte read sees only its own bytes. -/
theorem Memory.readLE_congr (n : Nat) (mem mem' : Memory) (a : Addr) (hn : n < 2 ^ 32)
    (h : ∀ c, inBytes a n c = true → mem'.read c = mem.read c) : mem'.readLE n a = mem.readLE n a := by
  induction n generalizing a with
  | zero => rfl
  | succ n ih =>
    have hs := inBytes_succ a
    rw [Memory.readLE, Memory.readLE, h a (by simp [inBytes]),
      ih (a + 1) (by omega) fun c hc => h c (by rw [hs c n, hc, Bool.or_true])]

/-- A multi-byte read is within its width. -/
theorem Memory.readLE_lt (n : Nat) (mem : Memory) (a : Addr) : mem.readLE n a < 256 ^ n := by
  induction n generalizing a with
  | zero => simp [Memory.readLE]
  | succ n ih =>
    have h1 := ih (a + 1)
    have h2 := (mem.read a).isLt
    rw [Memory.readLE, Nat.pow_succ]
    omega

end Sys2Proof.Machine
end

