-- ==== Sys2Proof/Laws/Host.lean ====
section
/-! SUPPORT. What the accesses to the host and the end of a handler can do, said once (20_memory.md R71 to R79,
40_kernel_and_protocol.md R170). -/

namespace Sys2Proof.Machine

/-! ## The end of a handler -/

/-- A handler always ends in a next state. -/
theorem finish_next (i : Instr) (e : Ended) : ∃ t, finish i e = .next t := by
  cases e <;> exact ⟨_, rfl⟩

/-- A handler that returns reports its cycles. -/
@[simp] theorem finish_done (i : Instr) (s : State) : finish i (.done s) = .next (charged i s) := rfl

/-- A handler that the host ended reports none. -/
@[simp] theorem finish_abort (i : Instr) (s : State) : finish i (.abort s) = .next s := rfl

@[simp] theorem andThen_done (s : State) (k : State → Ended) : (Ended.done s).andThen k = k s := rfl
@[simp] theorem andThen_abort (s : State) (k : State → Ended) : (Ended.abort s).andThen k = .abort s := rfl

/-! ## Guards -/

/-- A host without guards refuses nothing. -/
theorem guarded_nil (s : State) (h : s.guards = []) (acc : Access) (a : Addr) (n : Nat) : s.guarded acc a n = false := by
  simp [State.guarded, h]

/-- What the host refuses depends on its guards alone. -/
theorem guarded_congr (s t : State) (h : t.guards = s.guards) (acc : Access) (a : Addr) (n : Nat) :
    t.guarded acc a n = s.guarded acc a n := by simp [State.guarded, h]

/-! ## Sources -/

/-- A readable memory operand is read. -/
theorem memWord_readable (n : Nat) (m : MemOperand) (s : State) (k : Nat → Ended) (h : s.readable m n) :
    memWord n m s k = k (s.mem.readLE n m.ea) := by
  simp [memWord, getEa, hostRead, h.1, h.2]

/-- Everything a memory source can do: it is read, or the host ends the handler with nothing changed. -/
theorem memWord_spec (n : Nat) (m : MemOperand) (s : State) (k : Nat → Ended) :
    memWord n m s k = k (s.mem.readLE n m.ea) ∨ ∃ f, memWord n m s k = .abort { s with hostFault := some f } := by
  simp only [memWord, getEa, hostRead, hostFaulted]
  split
  · exact .inr ⟨_, rfl⟩
  · split
    · exact .inr ⟨_, rfl⟩
    · exact .inl rfl

/-- A readable memory operand is read and decoded. -/
theorem memSource_readable (f : MemSrc) (m : MemOperand) (s : State) (k : Fx80 → Bool → State → Ended)
    (h : s.readable m f.bytes) :
    memSource f m s k = k (f.decode (s.mem.readLE f.bytes m.ea)).1 (f.decode (s.mem.readLE f.bytes m.ea)).2
      (latchIf (f.decode (s.mem.readLE f.bytes m.ea)).2 bitIE s) :=
  memWord_readable _ _ _ _ h

/-- A readable 80-bit operand is read. -/
theorem memSource80_readable (m : MemOperand) (s : State) (k : Fx80 → Ended) (h : s.readable80 m) :
    memSource80 m s k = k (s.mem.read80 m.ea) := by
  simp only [memSource80, getEa, hostRead80, hostRead, h.1, h.2.1, h.2.2, Memory.read80, Bool.false_eq_true, if_false]

/-! ## Destinations -/

/-- A memory destination whose `GetEA` the host lets through. -/
theorem memDest_open (m : MemOperand) (s : State) (k : Addr → Ended) (h : s.guarded (.getEa true) m.ea 1 = false) :
    memDest m s k = k m.ea := by
  simp [memDest, getEa, h]

/-- Everything a write can do: the bytes are stored and nothing else changes, or the host ends the handler with nothing
changed. -/
theorem hostWrite_spec (n : Nat) (a : Addr) (v : Nat) (s : State) :
    hostWrite n a v s = if s.guarded .write a n then .abort { s with hostFault := some ⟨.write, a⟩ }
      else .done { s with mem := s.mem.writeLE n a v } := rfl

/-- A write of 80 bits that the host lets through. -/
theorem hostWrite80_open (a : Addr) (v : Fx80) (s : State) (h : s.guarded .write a 8 = false)
    (h' : s.guarded .write (a + 8) 2 = false) : hostWrite80 a v s = .done { s with mem := s.mem.write80 a v } := by
  have h2 : ({ s with mem := s.mem.writeLE 8 a v.low.toNat } : State).guarded .write (a + 8) 2 = false := h'
  simp only [hostWrite80, hostWrite_spec, h, h2, Bool.false_eq_true, if_false, andThen_done, Memory.write80]

/-- A write keeps memory canonical. -/
theorem hostWrite_wf (n : Nat) (a : Addr) (v : Nat) (s : State) (h : s.mem.wf = true) :
    (hostWrite n a v s).state.mem.wf = true := by
  rw [hostWrite_spec]
  split
  · exact h
  · exact Memory.wf_writeLE _ _ _ _ h

/-- So does a write of 80 bits. -/
theorem hostWrite80_wf (a : Addr) (v : Fx80) (s : State) (h : s.mem.wf = true) :
    (hostWrite80 a v s).state.mem.wf = true := by
  rw [hostWrite80]
  have h1 := hostWrite_wf 8 a v.low.toNat s h
  cases hw : hostWrite 8 a v.low.toNat s with
  | done t => rw [hw] at h1; exact hostWrite_wf 2 (a + 8) v.high.toNat t h1
  | abort t => rw [hw] at h1; exact h1

end Sys2Proof.Machine
end

