-- ==== Sys2Proof/Laws/PerInstr.lean ====
section
/-! SUPPORT. A law of the encoding, one lemma per constructor of Instr: the escape byte names a group, and the ModR/M
byte of a well-formed instruction is below 0xC0 exactly for the forms that access memory (30_encoding.md R100, R101). -/

namespace Sys2Proof.Laws

theorem groupOf_escByte (g : BitVec 3) : groupOf (escByte g) = some g := by revert g; decide

theorem modrm_mem_lt (mod : BitVec 2) (reg rm : BitVec 3) : mod != 3#2 → mod ++ reg ++ rm < 0xC0#8 := by
  revert mod reg rm; decide

theorem modrm_reg_not_lt (row i : BitVec 3) : ¬ 3#2 ++ row ++ i < 0xC0#8 := by revert row i; decide

namespace EncodeForm

/-- The form of the encoding of an instruction. -/
def Statement (i : Instr) : Prop :=
  (groupOf (encode i).esc).isSome ∧ (i.wellFormed = true → ((encode i).modrm < 0xC0#8 ↔ i.access.isSome))

theorem of_mem {i : Instr} {g reg : BitVec 3} {m : MemOperand} (he : encode i = encodeMem g reg m)
    (hw : i.wellFormed = m.wellFormed) (ha : i.access.isSome = true) : Statement i := by
  refine ⟨by rw [he]; simp [encodeMem, groupOf_escByte], fun h => ?_⟩
  rw [he]
  exact ⟨fun _ => ha, fun _ => modrm_mem_lt _ _ _ (by rw [hw] at h; exact h)⟩

theorem of_reg {i : Instr} {g row j : BitVec 3} (he : encode i = encodeReg g row j)
    (ha : i.access.isSome = false) : Statement i := by
  refine ⟨by rw [he]; simp [encodeReg, groupOf_escByte], fun _ => ?_⟩
  rw [he, ha]
  exact ⟨fun h => absurd h (modrm_reg_not_lt _ _), fun h => absurd h (by decide)⟩

theorem faddM32real (m : MemOperand) : Statement (.faddM32real m) := of_mem rfl rfl rfl
theorem fmulM32real (m : MemOperand) : Statement (.fmulM32real m) := of_mem rfl rfl rfl
theorem fcomM32real (m : MemOperand) : Statement (.fcomM32real m) := of_mem rfl rfl rfl
theorem fcompM32real (m : MemOperand) : Statement (.fcompM32real m) := of_mem rfl rfl rfl
theorem fsubM32real (m : MemOperand) : Statement (.fsubM32real m) := of_mem rfl rfl rfl
theorem fsubrM32real (m : MemOperand) : Statement (.fsubrM32real m) := of_mem rfl rfl rfl
theorem fdivM32real (m : MemOperand) : Statement (.fdivM32real m) := of_mem rfl rfl rfl
theorem fdivrM32real (m : MemOperand) : Statement (.fdivrM32real m) := of_mem rfl rfl rfl
theorem faddStSti (i : Slot) : Statement (.faddStSti i) := of_reg rfl rfl
theorem fmulStSti (i : Slot) : Statement (.fmulStSti i) := of_reg rfl rfl
theorem fcomSti (i : Slot) : Statement (.fcomSti i) := of_reg rfl rfl
theorem fcompSti (i : Slot) : Statement (.fcompSti i) := of_reg rfl rfl
theorem fsubStSti (i : Slot) : Statement (.fsubStSti i) := of_reg rfl rfl
theorem fsubrStSti (i : Slot) : Statement (.fsubrStSti i) := of_reg rfl rfl
theorem fdivStSti (i : Slot) : Statement (.fdivStSti i) := of_reg rfl rfl
theorem fdivrStSti (i : Slot) : Statement (.fdivrStSti i) := of_reg rfl rfl
theorem fldM32real (m : MemOperand) : Statement (.fldM32real m) := of_mem rfl rfl rfl
theorem fstM32real (m : MemOperand) : Statement (.fstM32real m) := of_mem rfl rfl rfl
theorem fstpM32real (m : MemOperand) : Statement (.fstpM32real m) := of_mem rfl rfl rfl
theorem fldenv (m : MemOperand) : Statement (.fldenv m) := of_mem rfl rfl rfl
theorem fldcw (m : MemOperand) : Statement (.fldcw m) := of_mem rfl rfl rfl
theorem fstenv (m : MemOperand) : Statement (.fstenv m) := of_mem rfl rfl rfl
theorem fstcw (m : MemOperand) : Statement (.fstcw m) := of_mem rfl rfl rfl
theorem fldSti (i : Slot) : Statement (.fldSti i) := of_reg rfl rfl
theorem fxch (i : Slot) : Statement (.fxch i) := of_reg rfl rfl
theorem fnop : Statement .fnop := of_reg rfl rfl
theorem fchs : Statement .fchs := of_reg rfl rfl
theorem fabs : Statement .fabs := of_reg rfl rfl
theorem ftst : Statement .ftst := of_reg rfl rfl
theorem fxam : Statement .fxam := of_reg rfl rfl
theorem fld1 : Statement .fld1 := of_reg rfl rfl
theorem fldl2t : Statement .fldl2t := of_reg rfl rfl
theorem fldl2e : Statement .fldl2e := of_reg rfl rfl
theorem fldpi : Statement .fldpi := of_reg rfl rfl
theorem fldlg2 : Statement .fldlg2 := of_reg rfl rfl
theorem fldln2 : Statement .fldln2 := of_reg rfl rfl
theorem fldz : Statement .fldz := of_reg rfl rfl
theorem f2xm1 : Statement .f2xm1 := of_reg rfl rfl
theorem fyl2x : Statement .fyl2x := of_reg rfl rfl
theorem fptan : Statement .fptan := of_reg rfl rfl
theorem fpatan : Statement .fpatan := of_reg rfl rfl
theorem fxtract : Statement .fxtract := of_reg rfl rfl
theorem fprem1 : Statement .fprem1 := of_reg rfl rfl
theorem fdecstp : Statement .fdecstp := of_reg rfl rfl
theorem fincstp : Statement .fincstp := of_reg rfl rfl
theorem fprem : Statement .fprem := of_reg rfl rfl
theorem fyl2xp1 : Statement .fyl2xp1 := of_reg rfl rfl
theorem fsqrt : Statement .fsqrt := of_reg rfl rfl
theorem fsincos : Statement .fsincos := of_reg rfl rfl
theorem frndint : Statement .frndint := of_reg rfl rfl
theorem fscale : Statement .fscale := of_reg rfl rfl
theorem fsin : Statement .fsin := of_reg rfl rfl
theorem fcos : Statement .fcos := of_reg rfl rfl
theorem fiaddM32int (m : MemOperand) : Statement (.fiaddM32int m) := of_mem rfl rfl rfl
theorem fimulM32int (m : MemOperand) : Statement (.fimulM32int m) := of_mem rfl rfl rfl
theorem ficomM32int (m : MemOperand) : Statement (.ficomM32int m) := of_mem rfl rfl rfl
theorem ficompM32int (m : MemOperand) : Statement (.ficompM32int m) := of_mem rfl rfl rfl
theorem fisubM32int (m : MemOperand) : Statement (.fisubM32int m) := of_mem rfl rfl rfl
theorem fisubrM32int (m : MemOperand) : Statement (.fisubrM32int m) := of_mem rfl rfl rfl
theorem fidivM32int (m : MemOperand) : Statement (.fidivM32int m) := of_mem rfl rfl rfl
theorem fidivrM32int (m : MemOperand) : Statement (.fidivrM32int m) := of_mem rfl rfl rfl
theorem fcmovb (i : Slot) : Statement (.fcmovb i) := of_reg rfl rfl
theorem fcmove (i : Slot) : Statement (.fcmove i) := of_reg rfl rfl
theorem fcmovbe (i : Slot) : Statement (.fcmovbe i) := of_reg rfl rfl
theorem fcmovu (i : Slot) : Statement (.fcmovu i) := of_reg rfl rfl
theorem fucompp : Statement .fucompp := of_reg rfl rfl
theorem fildM32int (m : MemOperand) : Statement (.fildM32int m) := of_mem rfl rfl rfl
theorem fistM32int (m : MemOperand) : Statement (.fistM32int m) := of_mem rfl rfl rfl
theorem fistpM32int (m : MemOperand) : Statement (.fistpM32int m) := of_mem rfl rfl rfl
theorem fldM80real (m : MemOperand) : Statement (.fldM80real m) := of_mem rfl rfl rfl
theorem fstpM80real (m : MemOperand) : Statement (.fstpM80real m) := of_mem rfl rfl rfl
theorem fcmovnb (i : Slot) : Statement (.fcmovnb i) := of_reg rfl rfl
theorem fcmovne (i : Slot) : Statement (.fcmovne i) := of_reg rfl rfl
theorem fcmovnbe (i : Slot) : Statement (.fcmovnbe i) := of_reg rfl rfl
theorem fcmovnu (i : Slot) : Statement (.fcmovnu i) := of_reg rfl rfl
theorem fclex : Statement .fclex := of_reg rfl rfl
theorem finit : Statement .finit := of_reg rfl rfl
theorem fucomi (i : Slot) : Statement (.fucomi i) := of_reg rfl rfl
theorem fcomi (i : Slot) : Statement (.fcomi i) := of_reg rfl rfl
theorem faddM64real (m : MemOperand) : Statement (.faddM64real m) := of_mem rfl rfl rfl
theorem fmulM64real (m : MemOperand) : Statement (.fmulM64real m) := of_mem rfl rfl rfl
theorem fcomM64real (m : MemOperand) : Statement (.fcomM64real m) := of_mem rfl rfl rfl
theorem fcompM64real (m : MemOperand) : Statement (.fcompM64real m) := of_mem rfl rfl rfl
theorem fsubM64real (m : MemOperand) : Statement (.fsubM64real m) := of_mem rfl rfl rfl
theorem fsubrM64real (m : MemOperand) : Statement (.fsubrM64real m) := of_mem rfl rfl rfl
theorem fdivM64real (m : MemOperand) : Statement (.fdivM64real m) := of_mem rfl rfl rfl
theorem fdivrM64real (m : MemOperand) : Statement (.fdivrM64real m) := of_mem rfl rfl rfl
theorem faddStiSt (i : Slot) : Statement (.faddStiSt i) := of_reg rfl rfl
theorem fmulStiSt (i : Slot) : Statement (.fmulStiSt i) := of_reg rfl rfl
theorem fsubrStiSt (i : Slot) : Statement (.fsubrStiSt i) := of_reg rfl rfl
theorem fsubStiSt (i : Slot) : Statement (.fsubStiSt i) := of_reg rfl rfl
theorem fdivrStiSt (i : Slot) : Statement (.fdivrStiSt i) := of_reg rfl rfl
theorem fdivStiSt (i : Slot) : Statement (.fdivStiSt i) := of_reg rfl rfl
theorem fldM64real (m : MemOperand) : Statement (.fldM64real m) := of_mem rfl rfl rfl
theorem fstM64real (m : MemOperand) : Statement (.fstM64real m) := of_mem rfl rfl rfl
theorem fstpM64real (m : MemOperand) : Statement (.fstpM64real m) := of_mem rfl rfl rfl
theorem frstor (m : MemOperand) : Statement (.frstor m) := of_mem rfl rfl rfl
theorem fsave (m : MemOperand) : Statement (.fsave m) := of_mem rfl rfl rfl
theorem fstswM16 (m : MemOperand) : Statement (.fstswM16 m) := of_mem rfl rfl rfl
theorem ffree (i : Slot) : Statement (.ffree i) := of_reg rfl rfl
theorem fstSti (i : Slot) : Statement (.fstSti i) := of_reg rfl rfl
theorem fstpSti (i : Slot) : Statement (.fstpSti i) := of_reg rfl rfl
theorem fucom (i : Slot) : Statement (.fucom i) := of_reg rfl rfl
theorem fucomp (i : Slot) : Statement (.fucomp i) := of_reg rfl rfl
theorem fiaddM16int (m : MemOperand) : Statement (.fiaddM16int m) := of_mem rfl rfl rfl
theorem fimulM16int (m : MemOperand) : Statement (.fimulM16int m) := of_mem rfl rfl rfl
theorem ficomM16int (m : MemOperand) : Statement (.ficomM16int m) := of_mem rfl rfl rfl
theorem ficompM16int (m : MemOperand) : Statement (.ficompM16int m) := of_mem rfl rfl rfl
theorem fisubM16int (m : MemOperand) : Statement (.fisubM16int m) := of_mem rfl rfl rfl
theorem fisubrM16int (m : MemOperand) : Statement (.fisubrM16int m) := of_mem rfl rfl rfl
theorem fidivM16int (m : MemOperand) : Statement (.fidivM16int m) := of_mem rfl rfl rfl
theorem fidivrM16int (m : MemOperand) : Statement (.fidivrM16int m) := of_mem rfl rfl rfl
theorem faddp (i : Slot) : Statement (.faddp i) := of_reg rfl rfl
theorem fmulp (i : Slot) : Statement (.fmulp i) := of_reg rfl rfl
theorem fsubrp (i : Slot) : Statement (.fsubrp i) := of_reg rfl rfl
theorem fsubp (i : Slot) : Statement (.fsubp i) := of_reg rfl rfl
theorem fdivrp (i : Slot) : Statement (.fdivrp i) := of_reg rfl rfl
theorem fdivp (i : Slot) : Statement (.fdivp i) := of_reg rfl rfl
theorem fcompp : Statement .fcompp := of_reg rfl rfl
theorem fildM16int (m : MemOperand) : Statement (.fildM16int m) := of_mem rfl rfl rfl
theorem fistM16int (m : MemOperand) : Statement (.fistM16int m) := of_mem rfl rfl rfl
theorem fistpM16int (m : MemOperand) : Statement (.fistpM16int m) := of_mem rfl rfl rfl
theorem fbld (m : MemOperand) : Statement (.fbld m) := of_mem rfl rfl rfl
theorem fildM64int (m : MemOperand) : Statement (.fildM64int m) := of_mem rfl rfl rfl
theorem fbstp (m : MemOperand) : Statement (.fbstp m) := of_mem rfl rfl rfl
theorem fistpM64int (m : MemOperand) : Statement (.fistpM64int m) := of_mem rfl rfl rfl
theorem fstswAx : Statement .fstswAx := of_reg rfl rfl
theorem fucomip (i : Slot) : Statement (.fucomip i) := of_reg rfl rfl
theorem fcomip (i : Slot) : Statement (.fcomip i) := of_reg rfl rfl

end EncodeForm

end Sys2Proof.Laws
end

