-- ==== Sys2Proof/Laws/Stack.lean ====
section
/-! SUPPORT. What the stack primitives can do, said once: the write of a slot, the push, the pop, the write of ST(i)
(40_kernel_and_protocol.md R157 to R164). -/

namespace Sys2Proof.Machine

/-! ## One slot -/

/-- A register after a slot is written. -/
theorem setSlot_reg (p q : Slot) (v : Fx80) (t : BitVec 2) (s : State) :
    (setSlot p v t s).reg q = if q = p then v else s.reg q := by
  have hq : q = p ↔ p.toNat = q.toNat := ⟨fun h => h ▸ rfl, fun h => (BitVec.eq_of_toNat_eq h).symm⟩
  simp [setSlot, State.reg, Vector.getElem_set, hq]

/-- A tag after a slot is written. -/
theorem setSlot_tag (p q : Slot) (v : Fx80) (t : BitVec 2) (s : State) :
    tagOfSlot (setSlot p v t s).tw q = if q = p then t else tagOfSlot s.tw q := tagOfSlot_putTag _ _ _ _

/-- Writing a slot leaves TOP. -/
@[simp] theorem setSlot_top (p : Slot) (v : Fx80) (t : BitVec 2) (s : State) : (setSlot p v t s).top = s.top := rfl

/-- TOP after TOP is written. -/
@[simp] theorem setTop_top (t : Slot) (s : State) : (setTop t s).top = t := topOf_putTop _ _

/-! ## Push and write -/

/-- A push writes the slot below the top, with the tag given, and moves TOP there (R161). -/
theorem pushCommit_spec (v : Fx80) (t : BitVec 2) (s : State) : pushCommit v t s = pushed v t s.sw s := rfl

/-- A write of ST(i) tags by inspection and leaves TOP (R163). -/
theorem writeStack_spec (i : Slot) (v : Fx80) (s : State) : writeStack i v s = written i v s.sw s := rfl

/-- ST(i) is occupied once it has been written. -/
theorem writeStack_occupied (i : Slot) (v : Fx80) (s : State) : (writeStack i v s).isEmpty i = false := by
  have h : (writeStack i v s).tag i = tagOf v := tagOfSlot_putTag_same _ _ _
  rw [State.isEmpty, h, tagOf]
  split <;> [rfl; (split <;> rfl)]

/-- Whether another ST(j) is empty is not changed by a write of ST(i). -/
theorem writeStack_isEmpty_other (i j : Slot) (v : Fx80) (s : State) (h : j ≠ i) :
    (writeStack i v s).isEmpty j = s.isEmpty j := by
  have hp : s.top + j ≠ s.top + i := fun e => h (by simpa using e)
  simp only [State.isEmpty, State.tag]
  rw [show (writeStack i v s).phys j = s.phys j from rfl]
  exact congrArg (· == tagEmpty) (tagOfSlot_putTag_other _ _ _ _ hp)

/-! ## Pop -/

/-- The movement of a pop (R162). -/
theorem popMove_spec (s : State) : popMove s = poppedIf true s.sw s := rfl

/-- Everything a pop can do (R162): the movement; with an EMPTY top the stack underflow first, and the movement only when
it is masked. -/
theorem pop_spec (s : State) :
    pop s = if s.isEmpty 0 then
        (if s.cw.getLsbD 0 then poppedIf true (underflowed s.sw) s else { s with sw := underflowed s.sw })
      else poppedIf true s.sw s := by
  have hu : setStackUnderflow s = { s with sw := underflowed s.sw } := by
    rw [← setStackUnderflow_mask]; rfl
  have ht : topOf (underflowed s.sw) = topOf s.sw := by
    rw [← setStackUnderflow_mask]; simp [setStackUnderflow]
  unfold pop
  split
  · split
    · rw [hu]
      simp [popMove, setTop, poppedIf, State.top, ht]
    · exact hu
  · rfl

/-- A pop of an occupied top only moves. -/
theorem pop_occupied (s : State) (h : s.isEmpty 0 = false) : pop s = poppedIf true s.sw s := by
  rw [pop_spec, if_neg (by rw [h]; decide)]

/-! ## The status word of a stack fault -/

/-- A stack underflow found again changes nothing. -/
theorem underflowed_idem (sw : Word) : underflowed (underflowed sw) = underflowed sw := by
  apply word_ext
  intro k hk
  simp only [underflowed, BitVec.getLsbD_and, BitVec.getLsbD_or]
  cases sw.getLsbD k <;> cases (0x0041#16).getLsbD k <;> cases (0xFDFF#16).getLsbD k <;> rfl

/-- A stack underflow leaves IE latched. -/
theorem underflowed_IE (sw : Word) : (underflowed sw).getLsbD 0 = true := by simp [underflowed]

end Sys2Proof.Machine
end

