-- ==== Sys2Proof/Laws/Step.lean ====
section
/-! SUPPORT. Everything a step can do (10_state.md R30). -/

namespace Sys2Proof.Machine

/-- The forms of a step that goes on: an instruction, a command, an act of the host, or no call left. -/
theorem step_cases {s t : State} (h : step s = .next t) :
    (∃ x i, s.stream[s.pos]? = some (.insn x) ∧ decode x = .instr i ∧ exec i s.begin = .next t) ∨
    (∃ c, s.stream[s.pos]? = some (.port c) ∧ t = portStep c s.begin) ∨
    (∃ e, s.stream[s.pos]? = some (.event e) ∧ t = hostStep e s.begin) ∨
    (s.stream[s.pos]? = none ∧ t = s) := by
  unfold step at h
  simp only [fetch] at h
  split at h
  · next hn => exact .inr (.inr (.inr ⟨hn, by cases h; rfl⟩))
  · next x hx =>
    split at h
    · next i hi => exact .inl ⟨x, i, hx, hi, h⟩
    · next e _ => cases e <;> cases h
  · next c hc => exact .inr (.inl ⟨c, hc, by cases h; rfl⟩)
  · next e he => exact .inr (.inr (.inl ⟨e, he, by cases h; rfl⟩))

@[simp] theorem begin_mem (s : State) : s.begin.mem = s.mem := rfl
@[simp] theorem begin_fx (s : State) : s.begin.fx = s.fx := rfl
@[simp] theorem begin_rm (s : State) : s.begin.rm = s.rm := rfl
@[simp] theorem begin_cw (s : State) : s.begin.cw = s.cw := rfl
@[simp] theorem begin_sw (s : State) : s.begin.sw = s.sw := rfl
@[simp] theorem begin_tw (s : State) : s.begin.tw = s.tw := rfl
@[simp] theorem begin_regs (s : State) : s.begin.regs = s.regs := rfl
@[simp] theorem begin_guards (s : State) : s.begin.guards = s.guards := rfl
@[simp] theorem begin_params (s : State) : s.begin.params = s.params := rfl

end Sys2Proof.Machine
end

