-- ==== Sys2Proof/Tests/Slice0.lean ====
section
/-! SUPPORT. Tests. The words of the decoding tests are the patterns of the tables of 30_encoding.md R106 to R113; the
vectors are lines of 95_test_vectors.md, named in each docstring; the witnesses meet the hypotheses of the statements. -/

set_option Elab.async false

namespace Sys2Proof.Tests

open Sys2Proof Sys2Proof.Machine

/-! ## Decoding: every constructor, from its word -/

/-- An escape byte with ModR/M bytes, and what each decodes to. -/
def decodesTo (esc : Byte) (ea : Addr) (l : List (Byte × Instr)) : Bool :=
  l.all fun p => decide (decode ⟨esc, p.1, ea⟩ = .instr p.2)

/-- Group D8: each row of its table. -/
theorem test_decode_D8 : decodesTo 0xD8 0x1234 (wordsD8 0x1234) = true := by decide +kernel

/-- Group D9: each row of its table. -/
theorem test_decode_D9 : decodesTo 0xD9 0x1234 (wordsD9 0x1234) = true := by decide +kernel

/-- Group DA: each row of its table. -/
theorem test_decode_DA : decodesTo 0xDA 0x1234 (wordsDA 0x1234) = true := by decide +kernel

/-- Group DB: each row of its table. -/
theorem test_decode_DB : decodesTo 0xDB 0x1234 (wordsDB 0x1234) = true := by decide +kernel

/-- Group DC: each row of its table. -/
theorem test_decode_DC : decodesTo 0xDC 0x1234 (wordsDC 0x1234) = true := by decide +kernel

/-- Group DD: each row of its table. -/
theorem test_decode_DD : decodesTo 0xDD 0x1234 (wordsDD 0x1234) = true := by decide +kernel

/-- Group DE: each row of its table. -/
theorem test_decode_DE : decodesTo 0xDE 0x1234 (wordsDE 0x1234) = true := by decide +kernel

/-- Group DF: each row of its table. -/
theorem test_decode_DF : decodesTo 0xDF 0x1234 (wordsDF 0x1234) = true := by decide +kernel

/-- Unpopulated entries raise the fatal decode error (30_encoding.md R114): IV1, IV5, IV11, IV15, IV22. -/
theorem test_decode_fatal :
    [(0xD9, 0xD1, 1), (0xDA, 0xE8, 2), (0xDC, 0xD0, 4), (0xDE, 0xD8, 6), (0xDB, 0x25, 3)].all
      (fun p : Byte × Byte × BitVec 3 =>
        decide (decode ⟨p.1, p.2.1, 0⟩ = .reject (.fatalDecode p.2.2 p.2.1))) = true := by decide +kernel

/-- A byte that is no escape byte is refused by name (30_encoding.md R100). -/
theorem test_decode_not_escape :
    decode ⟨0xD7, 0xC0, 0⟩ = .reject (.notEscape 0xD7) ∧ decode ⟨0xE0, 0xC0, 0⟩ = .reject (.notEscape 0xE0) := by
  decide +kernel

/-- A word of the table as the host numbers it: the escape byte in the high byte (`FCOMPP`, `FXCH ST(3)`). -/
theorem test_decodeTableWord :
    decodeTableWord 16 0xDED9 = some .fcompp ∧ decodeTableWord 16 0xD9CB = some (.fxch 3) := by decide +kernel

/-- The first step after reset runs the placed instruction. -/
theorem test_withFetchWord :
    (State.reset.withFetchWord 16 0xD9E8).goesOn := ⟨_, rfl⟩

/-! ## Well-formedness: a memory form with `mod` 3 is refused -/

theorem test_ill_formed_D8 (rm : BitVec 3) (ea : Addr) :
    [Instr.faddM32real, .fmulM32real, .fcomM32real, .fcompM32real, .fsubM32real, .fsubrM32real, .fdivM32real,
      .fdivrM32real].all (fun c => !(c ⟨3, rm, ea⟩).wellFormed) = true := rfl

theorem test_ill_formed_D9 (rm : BitVec 3) (ea : Addr) :
    [Instr.fldM32real, .fstM32real, .fstpM32real, .fldenv, .fldcw, .fstenv, .fstcw].all (fun c => !(c ⟨3, rm, ea⟩).wellFormed) = true := rfl

theorem test_ill_formed_DA (rm : BitVec 3) (ea : Addr) :
    [Instr.fiaddM32int, .fimulM32int, .ficomM32int, .ficompM32int, .fisubM32int, .fisubrM32int, .fidivM32int,
      .fidivrM32int].all (fun c => !(c ⟨3, rm, ea⟩).wellFormed) = true := rfl

theorem test_ill_formed_DB (rm : BitVec 3) (ea : Addr) :
    [Instr.fildM32int, .fistM32int, .fistpM32int, .fldM80real, .fstpM80real].all (fun c => !(c ⟨3, rm, ea⟩).wellFormed) = true := rfl

theorem test_ill_formed_DC (rm : BitVec 3) (ea : Addr) :
    [Instr.faddM64real, .fmulM64real, .fcomM64real, .fcompM64real, .fsubM64real, .fsubrM64real, .fdivM64real,
      .fdivrM64real].all (fun c => !(c ⟨3, rm, ea⟩).wellFormed) = true := rfl

theorem test_ill_formed_DD (rm : BitVec 3) (ea : Addr) :
    [Instr.fldM64real, .fstM64real, .fstpM64real, .frstor, .fsave, .fstswM16].all (fun c => !(c ⟨3, rm, ea⟩).wellFormed) = true := rfl

theorem test_ill_formed_DE (rm : BitVec 3) (ea : Addr) :
    [Instr.fiaddM16int, .fimulM16int, .ficomM16int, .ficompM16int, .fisubM16int, .fisubrM16int, .fidivM16int,
      .fidivrM16int].all (fun c => !(c ⟨3, rm, ea⟩).wellFormed) = true := rfl

theorem test_ill_formed_DF (rm : BitVec 3) (ea : Addr) :
    [Instr.fildM16int, .fistM16int, .fistpM16int, .fbld, .fildM64int, .fbstp, .fistpM64int].all (fun c => !(c ⟨3, rm, ea⟩).wellFormed) = true := rfl

/-! ## Steps: vectors of 95_test_vectors.md -/

/-- A start state as that file writes it: a control word, the occupied stack from ST(0), the bytes from 0x1000. -/
def start (cw : Word) (st : List Fx80) (mem : List Byte) : State :=
  let s : State := { State.reset with
    cw := cw, rm := rcTable (rcOf cw), sw := putTop 0 (BitVec.ofNat 3 (8 - st.length)),
    mem := mem.zipIdx.foldl (fun m p => m.write (0x1000 + BitVec.ofNat 32 p.2) p.1) [] }
  st.zipIdx.foldl (fun t p => writeStack (BitVec.ofNat 3 p.2) p.1 t) s

/-- The value 2. -/
abbrev two : Fx80 := ⟨0x4000, 0x8000000000000000⟩

/-- An end state as that file writes it. -/
structure Expected where
  cw : Word
  sw : Word
  tw : Word
  st : List (Slot × Fx80)
  mem : List Byte := []
  mf : Bool := false
  zf : Bool := false
  pf : Bool := false
  cf : Bool := false
  ax : Word := 0

/-- One step over the bytes `x` from `s` ends as expected. -/
def sees (s : State) (x : Located) (e : Expected) : Bool :=
  match step { s with stream := [.insn x], pos := 0 } with
  | .next t =>
    decide (t.cw = e.cw ∧ t.sw = e.sw ∧ t.tw = e.tw ∧ t.mfRequest = e.mf ∧ t.ax = e.ax ∧ t.zf = e.zf ∧ t.pf = e.pf ∧
      t.cf = e.cf ∧ t.rm = rcTable (rcOf t.cw) ∧ t.fx = KFlags.empty) &&
    e.st.all (fun p => decide (t.st p.1 = p.2)) &&
    e.mem.zipIdx.all (fun p => decide (t.mem.read (0x1000 + BitVec.ofNat 32 p.2) = p.1))
  | .fault _ => false
  | .refused _ => false

/-- A8: `FADD ST,ST(i)`. -/
theorem test_fadd_st_st_i_A8 :
    sees (start 0x0377 [⟨0x7FFE, 0xFFFFFFFFFFFFFFFF⟩, ⟨0x7FFE, 0xFFFFFFFFFFFFFFFF⟩] []) ⟨0xD8, 0xC1, 0⟩
      { cw := 0x0377, sw := 0x30A8, tw := 0x0FFF, st := [(0, ⟨0x7FFE, 0xFFFFFFFFFFFFFFFF⟩), (1, ⟨0x7FFE,
        0xFFFFFFFFFFFFFFFF⟩)], mf := true } := by decide +kernel

/-- A9: `FSUB ST,ST(i)`. -/
theorem test_fsub_st_st_i_A9 :
    sees (start 0x077F [one, one] []) ⟨0xD8, 0xE1, 0⟩
      { cw := 0x077F, sw := 0x3000, tw := 0x1FFF, st := [(0, nzero), (1, one)] } := by decide +kernel

/-- A10: `FSUBR ST,ST(i)`. -/
theorem test_fsubr_st_st_i_A10 :
    sees (start 0x037F [two, one] []) ⟨0xD8, 0xE9, 0⟩
      { cw := 0x037F, sw := 0x3000, tw := 0x0FFF, st := [(0, ⟨0xBFFF, 0x8000000000000000⟩), (1, one)] } := by decide +kernel

/-- A11: `FSUB ST(i),ST`. -/
theorem test_fsub_st_i_st_A11 :
    sees (start 0x037F [two, one] []) ⟨0xDC, 0xE9, 0⟩
      { cw := 0x037F, sw := 0x3000, tw := 0x0FFF, st := [(0, two), (1, ⟨0xBFFF, 0x8000000000000000⟩)] } := by decide +kernel

/-- A12: `FSUBR ST(i),ST`. -/
theorem test_fsubr_st_i_st_A12 :
    sees (start 0x037F [two, one] []) ⟨0xDC, 0xE1, 0⟩
      { cw := 0x037F, sw := 0x3000, tw := 0x0FFF, st := [(0, two), (1, one)] } := by decide +kernel

/-- A13: `FSUBP ST(i),ST`. -/
theorem test_fsubp_st_i_st_A13 :
    sees (start 0x037F [two, one] []) ⟨0xDE, 0xE9, 0⟩
      { cw := 0x037F, sw := 0x3800, tw := 0x3FFF, st := [(0, ⟨0xBFFF, 0x8000000000000000⟩)] } := by decide +kernel

/-- A14: `FSUBRP ST(i),ST`. -/
theorem test_fsubrp_st_i_st_A14 :
    sees (start 0x037F [two, one] []) ⟨0xDE, 0xE1, 0⟩
      { cw := 0x037F, sw := 0x3800, tw := 0x3FFF, st := [(0, one)] } := by decide +kernel

/-- A17: `FMUL ST,ST(i)`. -/
theorem test_fmul_st_st_i_A17 :
    sees (start 0x037F [⟨0xC000, 0x8000000000000000⟩, ⟨0x0000, 0x0000000000000001⟩] []) ⟨0xD8, 0xC9, 0⟩
      { cw := 0x037F, sw := 0x3000, tw := 0x0FFF, st := [(0, ⟨0x8000, 0x0000000000000002⟩), (1, ⟨0x0000,
        0x0000000000000001⟩)] } := by decide +kernel

/-- A19: `FDIV ST,ST(i)`. -/
theorem test_fdiv_st_st_i_A19 :
    sees (start 0x037F [⟨0xBFFF, 0x8000000000000000⟩, pzero] []) ⟨0xD8, 0xF1, 0⟩
      { cw := 0x037F, sw := 0x3004, tw := 0x6FFF, st := [(0, ninf), (1, pzero)] } := by decide +kernel

/-- A22: `FDIVR ST,ST(i)`. -/
theorem test_fdivr_st_st_i_A22 :
    sees (start 0x037F [two, one] []) ⟨0xD8, 0xF9, 0⟩
      { cw := 0x037F, sw := 0x3000, tw := 0x0FFF, st := [(0, ⟨0x3FFE, 0x8000000000000000⟩), (1, one)] } := by decide +kernel

/-- A23: `FDIVRP ST(i),ST`. -/
theorem test_fdivrp_st_i_st_A23 :
    sees (start 0x037F [two, one] []) ⟨0xDE, 0xF1, 0⟩
      { cw := 0x037F, sw := 0x3800, tw := 0x3FFF, st := [(0, two)] } := by decide +kernel

/-- A36: `FDIVP ST(i),ST`. -/
theorem test_fdivp_st_i_st_A36 :
    sees (start 0x077F [⟨0x4000, 0xC000000000000000⟩, one] []) ⟨0xDE, 0xF9, 0⟩
      { cw := 0x077F, sw := 0x3820, tw := 0x3FFF, st := [(0, ⟨0x3FFD, 0xAAAAAAAAAAAAAAAA⟩)] } := by decide +kernel

/-- A28: `FADD m32real`. -/
theorem test_fadd_m32real_A28 :
    sees (start 0x037F [one] [0x01, 0x00, 0x00, 0x00]) ⟨0xD8, 0x05, 0x1000⟩
      { cw := 0x037F, sw := 0x3820, tw := 0x3FFF, st := [(0, one)], mem := [0x01, 0x00, 0x00, 0x00] } := by decide +kernel

/-- A29: `FMUL m64real`. -/
theorem test_fmul_m64real_A29 :
    sees (start 0x037F [two] [0x9A, 0x99, 0x99, 0x99, 0x99, 0x99, 0xB9, 0x3F]) ⟨0xDC, 0x0D, 0x1000⟩
      { cw := 0x037F, sw := 0x3800, tw := 0x3FFF, st := [(0, ⟨0x3FFC, 0xCCCCCCCCCCCCD000⟩)], mem := [0x9A, 0x99,
        0x99, 0x99, 0x99, 0x99, 0xB9, 0x3F] } := by decide +kernel

/-- A30: `FIADD m16int`. -/
theorem test_fiadd_m16int_A30 :
    sees (start 0x037F [one] [0xFD, 0xFF]) ⟨0xDE, 0x05, 0x1000⟩
      { cw := 0x037F, sw := 0x3800, tw := 0x3FFF, st := [(0, ⟨0xC000, 0x8000000000000000⟩)], mem := [0xFD, 0xFF] } := by decide +kernel

/-- A31: `FIDIVR m32int`. -/
theorem test_fidivr_m32int_A31 :
    sees (start 0x037F [two] [0x0A, 0x00, 0x00, 0x00]) ⟨0xDA, 0x3D, 0x1000⟩
      { cw := 0x037F, sw := 0x3800, tw := 0x3FFF, st := [(0, ⟨0x4001, 0xA000000000000000⟩)], mem := [0x0A, 0x00,
        0x00, 0x00] } := by decide +kernel

/-- A32: `FISUB m32int`. -/
theorem test_fisub_m32int_A32 :
    sees (start 0x037F [two] [0x00, 0x00, 0x00, 0x80]) ⟨0xDA, 0x25, 0x1000⟩
      { cw := 0x037F, sw := 0x3800, tw := 0x3FFF, st := [(0, ⟨0x401E, 0x8000000200000000⟩)], mem := [0x00, 0x00,
        0x00, 0x80] } := by decide +kernel

/-- M2: `FCHS`. -/
theorem test_fchs_M2 :
    sees (start 0x037F [⟨0x7FFF, 0x8000000000000001⟩] []) ⟨0xD9, 0xE0, 0⟩
      { cw := 0x037F, sw := 0x3800, tw := 0xBFFF, st := [(0, ⟨0xFFFF, 0x8000000000000001⟩)] } := by decide +kernel

/-- M5: `FABS`. -/
theorem test_fabs_M5 :
    sees (start 0x037F [⟨0xC000, 0xA000000000000000⟩] []) ⟨0xD9, 0xE1, 0⟩
      { cw := 0x037F, sw := 0x3800, tw := 0x3FFF, st := [(0, ⟨0x4000, 0xA000000000000000⟩)] } := by decide +kernel

/-- M7: `FSQRT`. -/
theorem test_fsqrt_M7 :
    sees (start 0x0B7F [two] []) ⟨0xD9, 0xFA, 0⟩
      { cw := 0x0B7F, sw := 0x3820, tw := 0x3FFF, st := [(0, ⟨0x3FFF, 0xB504F333F9DE6485⟩)] } := by decide +kernel

/-- M16: `FRNDINT`. -/
theorem test_frndint_M16 :
    sees (start 0x077F [⟨0xC000, 0xA000000000000000⟩] []) ⟨0xD9, 0xFC, 0⟩
      { cw := 0x077F, sw := 0x3820, tw := 0x3FFF, st := [(0, ⟨0xC000, 0xC000000000000000⟩)] } := by decide +kernel

/-- M28: `FSCALE`. -/
theorem test_fscale_M28 :
    sees (start 0x037F [⟨0x4000, 0xC000000000000000⟩, ⟨0xC00D, 0x807A000000000000⟩] []) ⟨0xD9, 0xFD, 0⟩
      { cw := 0x037F, sw := 0x3000, tw := 0x0FFF, st := [(0, ⟨0x0000, 0x0000000000000003⟩), (1, ⟨0xC00D,
        0x807A000000000000⟩)] } := by decide +kernel

/-- M36: `FXTRACT`. -/
theorem test_fxtract_M36 :
    sees (start 0x037F [⟨0xBFFD, 0xC000000000000000⟩] []) ⟨0xD9, 0xF4, 0⟩
      { cw := 0x037F, sw := 0x3000, tw := 0x0FFF, st := [(0, ⟨0xBFFF, 0xC000000000000000⟩), (1, ⟨0xC000,
        0x8000000000000000⟩)] } := by decide +kernel

/-- M45: `FPREM`. -/
theorem test_fprem_M45 :
    sees (start 0x037F [⟨0xC001, 0xE000000000000000⟩, two] []) ⟨0xD9, 0xF8, 0⟩
      { cw := 0x037F, sw := 0x7200, tw := 0x0FFF, st := [(0, ⟨0xBFFF, 0x8000000000000000⟩), (1, two)] } := by decide +kernel

/-- CM2: `FCOM ST(i)`. -/
theorem test_fcom_st_i_CM2 :
    sees (start 0x037F [two, one] []) ⟨0xD8, 0xD1, 0⟩
      { cw := 0x037F, sw := 0x3000, tw := 0x0FFF, st := [(0, two), (1, one)] } := by decide +kernel

/-- CM8: `FUCOM ST(i)`. -/
theorem test_fucom_st_i_CM8 :
    sees (start 0x037F [one, ⟨0x7FFF, 0x8000000000000001⟩] []) ⟨0xDD, 0xE1, 0⟩
      { cw := 0x037F, sw := 0x7501, tw := 0x8FFF, st := [(0, one), (1, ⟨0x7FFF, 0x8000000000000001⟩)] } := by decide +kernel

/-- CM11: `FCOMP ST(i)`. -/
theorem test_fcomp_st_i_CM11 :
    sees (start 0x037F [one, two] []) ⟨0xD8, 0xD9, 0⟩
      { cw := 0x037F, sw := 0x3900, tw := 0x3FFF, st := [(0, two)] } := by decide +kernel

/-- CM12: `FCOMPP`. -/
theorem test_fcompp_CM12 :
    sees (start 0x037F [one, two] []) ⟨0xDE, 0xD9, 0⟩
      { cw := 0x037F, sw := 0x0100, tw := 0xFFFF, st := [] } := by decide +kernel

/-- CM13: `FUCOMP ST(i)`. -/
theorem test_fucomp_st_i_CM13 :
    sees (start 0x037F [two, one] []) ⟨0xDD, 0xE9, 0⟩
      { cw := 0x037F, sw := 0x3800, tw := 0x3FFF, st := [(0, one)] } := by decide +kernel

/-- CM14: `FUCOMPP`. -/
theorem test_fucompp_CM14 :
    sees (start 0x037F [pinf, ninf] []) ⟨0xDA, 0xE9, 0⟩
      { cw := 0x037F, sw := 0x0000, tw := 0xFFFF, st := [] } := by decide +kernel

/-- CM15: `FCOM m32real`. -/
theorem test_fcom_m32real_CM15 :
    sees (start 0x037F [one] [0x00, 0x00, 0xC0, 0x3F]) ⟨0xD8, 0x15, 0x1000⟩
      { cw := 0x037F, sw := 0x3900, tw := 0x3FFF, st := [(0, one)], mem := [0x00, 0x00, 0xC0, 0x3F] } := by decide +kernel

/-- CM16: `FCOMP m64real`. -/
theorem test_fcomp_m64real_CM16 :
    sees (start 0x037F [one] [0x9A, 0x99, 0x99, 0x99, 0x99, 0x99, 0xB9, 0x3F]) ⟨0xDC, 0x1D, 0x1000⟩
      { cw := 0x037F, sw := 0x0000, tw := 0xFFFF, st := [], mem := [0x9A, 0x99, 0x99, 0x99, 0x99, 0x99, 0xB9, 0x3F] } := by decide +kernel

/-- CM17: `FICOM m16int`. -/
theorem test_ficom_m16int_CM17 :
    sees (start 0x037F [one] [0xFD, 0xFF]) ⟨0xDE, 0x15, 0x1000⟩
      { cw := 0x037F, sw := 0x3800, tw := 0x3FFF, st := [(0, one)], mem := [0xFD, 0xFF] } := by decide +kernel

/-- CM18: `FICOMP m32int`. -/
theorem test_ficomp_m32int_CM18 :
    sees (start 0x037F [one] [0x01, 0x00, 0x00, 0x00]) ⟨0xDA, 0x1D, 0x1000⟩
      { cw := 0x037F, sw := 0x4000, tw := 0xFFFF, st := [], mem := [0x01, 0x00, 0x00, 0x00] } := by decide +kernel

/-- CM20: `FCOMI ST,ST(i)`. -/
theorem test_fcomi_st_st_i_CM20 :
    sees (start 0x037F [two, one] []) ⟨0xDB, 0xF1, 0⟩
      { cw := 0x037F, sw := 0x3000, tw := 0x0FFF, st := [(0, two), (1, one)] } := by decide +kernel

/-- CM23: `FUCOMI ST,ST(i)`. -/
theorem test_fucomi_st_st_i_CM23 :
    sees (start 0x037F [one, ⟨0x7FFF, 0xC000000000000001⟩] []) ⟨0xDB, 0xE9, 0⟩
      { cw := 0x037F, sw := 0x3000, tw := 0x8FFF, st := [(0, one), (1, ⟨0x7FFF, 0xC000000000000001⟩)], zf := true,
        pf := true, cf := true } := by decide +kernel

/-- CM24: `FCOMIP ST,ST(i)`. -/
theorem test_fcomip_st_st_i_CM24 :
    sees (start 0x037F [one, two] []) ⟨0xDF, 0xF1, 0⟩
      { cw := 0x037F, sw := 0x3800, tw := 0x3FFF, st := [(0, two)], zf := false, pf := false, cf := true } := by decide +kernel

/-- CM25: `FUCOMIP ST,ST(i)`. -/
theorem test_fucomip_st_st_i_CM25 :
    sees (start 0x037F [two, one] []) ⟨0xDF, 0xE9, 0⟩
      { cw := 0x037F, sw := 0x3800, tw := 0x3FFF, st := [(0, one)] } := by decide +kernel

/-- CM28: `FTST`. -/
theorem test_ftst_CM28 :
    sees (start 0x037F [one] []) ⟨0xD9, 0xE4, 0⟩
      { cw := 0x037F, sw := 0x3800, tw := 0x3FFF, st := [(0, one)] } := by decide +kernel

/-- CM34: `FXAM`. -/
theorem test_fxam_CM34 :
    sees (start 0x037F [⟨0xBFFF, 0x8000000000000000⟩] []) ⟨0xD9, 0xE5, 0⟩
      { cw := 0x037F, sw := 0x3E00, tw := 0x3FFF, st := [(0, ⟨0xBFFF, 0x8000000000000000⟩)] } := by decide +kernel

/-- CM48: `FCMOVB ST,ST(i)`. -/
theorem test_fcmovb_st_st_i_CM48 :
    sees { start 0x037F [one, two] [] with cf := true } ⟨0xDA, 0xC1, 0⟩
      { cw := 0x037F, sw := 0x3000, tw := 0x0FFF, st := [(0, two), (1, two)], zf := false, pf := false, cf := true } := by decide +kernel

/-- CM51: `FCMOVE ST,ST(i)`. -/
theorem test_fcmove_st_st_i_CM51 :
    sees { start 0x037F [one, two] [] with cf := true, pf := true } ⟨0xDA, 0xC9, 0⟩
      { cw := 0x037F, sw := 0x3000, tw := 0x0FFF, st := [(0, one), (1, two)], zf := false, pf := true, cf := true } := by decide +kernel

/-- CM53: `FCMOVBE ST,ST(i)`. -/
theorem test_fcmovbe_st_st_i_CM53 :
    sees { start 0x037F [one, two] [] with pf := true } ⟨0xDA, 0xD1, 0⟩
      { cw := 0x037F, sw := 0x3000, tw := 0x0FFF, st := [(0, one), (1, two)], zf := false, pf := true, cf := false } := by decide +kernel

/-- CM55: `FCMOVU ST,ST(i)`. -/
theorem test_fcmovu_st_st_i_CM55 :
    sees { start 0x037F [one, two] [] with cf := true, zf := true } ⟨0xDA, 0xD9, 0⟩
      { cw := 0x037F, sw := 0x3000, tw := 0x0FFF, st := [(0, one), (1, two)], zf := true, pf := false, cf := true } := by decide +kernel

/-- CM57: `FCMOVNB ST,ST(i)`. -/
theorem test_fcmovnb_st_st_i_CM57 :
    sees { start 0x037F [one, two] [] with cf := true } ⟨0xDB, 0xC1, 0⟩
      { cw := 0x037F, sw := 0x3000, tw := 0x0FFF, st := [(0, one), (1, two)], zf := false, pf := false, cf := true } := by decide +kernel

/-- CM59: `FCMOVNE ST,ST(i)`. -/
theorem test_fcmovne_st_st_i_CM59 :
    sees { start 0x037F [one, two] [] with zf := true } ⟨0xDB, 0xC9, 0⟩
      { cw := 0x037F, sw := 0x3000, tw := 0x0FFF, st := [(0, one), (1, two)], zf := true, pf := false, cf := false } := by decide +kernel

/-- CM61: `FCMOVNBE ST,ST(i)`. -/
theorem test_fcmovnbe_st_st_i_CM61 :
    sees { start 0x037F [one, two] [] with cf := true } ⟨0xDB, 0xD1, 0⟩
      { cw := 0x037F, sw := 0x3000, tw := 0x0FFF, st := [(0, one), (1, two)], zf := false, pf := false, cf := true } := by decide +kernel

/-- CM63: `FCMOVNU ST,ST(i)`. -/
theorem test_fcmovnu_st_st_i_CM63 :
    sees { start 0x037F [one, two] [] with pf := true } ⟨0xDB, 0xD9, 0⟩
      { cw := 0x037F, sw := 0x3000, tw := 0x0FFF, st := [(0, one), (1, two)], zf := false, pf := true, cf := false } := by decide +kernel

/-- L3: `FLD m32real`. -/
theorem test_fld_m32real_L3 :
    sees (start 0x037F [] [0x00, 0x00, 0x80, 0x7F]) ⟨0xD9, 0x05, 0x1000⟩
      { cw := 0x037F, sw := 0x3800, tw := 0xBFFF, st := [(0, pinf)], mem := [0x00, 0x00, 0x80, 0x7F] } := by decide +kernel

/-- L10: `FLD m64real`. -/
theorem test_fld_m64real_L10 :
    sees (start 0x037F [] [0x23, 0x01, 0x00, 0x00, 0x00, 0x00, 0xF8, 0xFF]) ⟨0xDD, 0x05, 0x1000⟩
      { cw := 0x037F, sw := 0x3800, tw := 0xBFFF, st := [(0, ⟨0xFFFF, 0xC000000000091800⟩)], mem := [0x23, 0x01,
        0x00, 0x00, 0x00, 0x00, 0xF8, 0xFF] } := by decide +kernel

/-- L15: `FLD m80real`. -/
theorem test_fld_m80real_L15 :
    sees (start 0x037F [] [0x01, 0x00, 0x00, 0x00, 0x00, 0x00, 0x00, 0x00, 0xFF, 0x3F]) ⟨0xDB, 0x2D, 0x1000⟩
      { cw := 0x037F, sw := 0x3800, tw := 0x3FFF, st := [(0, ⟨0x3FFF, 0x0000000000000001⟩)], mem := [0x01, 0x00,
        0x00, 0x00, 0x00, 0x00, 0x00, 0x00, 0xFF, 0x3F] } := by decide +kernel

/-- L18: `FLD ST(i)`. -/
theorem test_fld_st_i_L18 :
    sees (start 0x037F [one] []) ⟨0xD9, 0xC0, 0⟩
      { cw := 0x037F, sw := 0x3000, tw := 0x0FFF, st := [(0, one), (1, one)] } := by decide +kernel

/-- L23: `FILD m16int`. -/
theorem test_fild_m16int_L23 :
    sees (start 0x037F [] [0x00, 0x80]) ⟨0xDF, 0x05, 0x1000⟩
      { cw := 0x037F, sw := 0x3800, tw := 0x3FFF, st := [(0, ⟨0xC00E, 0x8000000000000000⟩)], mem := [0x00, 0x80] } := by decide +kernel

/-- L25: `FILD m32int`. -/
theorem test_fild_m32int_L25 :
    sees (start 0x037F [] [0xFF, 0xFF, 0xFF, 0x7F]) ⟨0xDB, 0x05, 0x1000⟩
      { cw := 0x037F, sw := 0x3800, tw := 0x3FFF, st := [(0, ⟨0x401D, 0xFFFFFFFE00000000⟩)], mem := [0xFF, 0xFF,
        0xFF, 0x7F] } := by decide +kernel

/-- L27: `FILD m64int`. -/
theorem test_fild_m64int_L27 :
    sees (start 0x037F [] [0xFF, 0xFF, 0xFF, 0xFF, 0xFF, 0xFF, 0xFF, 0x7F]) ⟨0xDF, 0x2D, 0x1000⟩
      { cw := 0x037F, sw := 0x3800, tw := 0x3FFF, st := [(0, ⟨0x403D, 0xFFFFFFFFFFFFFFFE⟩)], mem := [0xFF, 0xFF,
        0xFF, 0xFF, 0xFF, 0xFF, 0xFF, 0x7F] } := by decide +kernel

/-- L29: `FBLD`. -/
theorem test_fbld_L29 :
    sees (start 0x037F [] [0x00, 0x00, 0x00, 0x00, 0x00, 0x00, 0x00, 0x00, 0x00, 0x80]) ⟨0xDF, 0x25, 0x1000⟩
      { cw := 0x037F, sw := 0x3800, tw := 0x7FFF, st := [(0, nzero)], mem := [0x00, 0x00, 0x00, 0x00, 0x00, 0x00,
        0x00, 0x00, 0x00, 0x80] } := by decide +kernel

/-- L54: `FLD1`. -/
theorem test_fld1_L54 :
    sees (start 0x037F [two, two, two, two, two, two, two, two] []) ⟨0xD9, 0xE8, 0⟩
      { cw := 0x037F, sw := 0x3A41, tw := 0x8000, st := [(0, indef), (1, two), (2, two), (3, two), (4, two), (5,
        two), (6, two), (7, two)] } := by decide +kernel

/-- L33: `FLDZ`. -/
theorem test_fldz_L33 :
    sees (start 0x037F [] []) ⟨0xD9, 0xEE, 0⟩
      { cw := 0x037F, sw := 0x3800, tw := 0x7FFF, st := [(0, pzero)] } := by decide +kernel

/-- L35: `FLDL2T`. -/
theorem test_fldl2t_L35 :
    sees (start 0x077F [] []) ⟨0xD9, 0xE9, 0⟩
      { cw := 0x077F, sw := 0x3800, tw := 0x3FFF, st := [(0, ⟨0x4000, 0xD49A784BCD1B8AFE⟩)] } := by decide +kernel

/-- L39: `FLDL2E`. -/
theorem test_fldl2e_L39 :
    sees (start 0x077F [] []) ⟨0xD9, 0xEA, 0⟩
      { cw := 0x077F, sw := 0x3800, tw := 0x3FFF, st := [(0, ⟨0x3FFF, 0xB8AA3B295C17F0BB⟩)] } := by decide +kernel

/-- L43: `FLDPI`. -/
theorem test_fldpi_L43 :
    sees (start 0x077F [] []) ⟨0xD9, 0xEB, 0⟩
      { cw := 0x077F, sw := 0x3800, tw := 0x3FFF, st := [(0, ⟨0x4000, 0xC90FDAA22168C234⟩)] } := by decide +kernel

/-- L47: `FLDLG2`. -/
theorem test_fldlg2_L47 :
    sees (start 0x077F [] []) ⟨0xD9, 0xEC, 0⟩
      { cw := 0x077F, sw := 0x3800, tw := 0x3FFF, st := [(0, ⟨0x3FFD, 0x9A209A84FBCFF798⟩)] } := by decide +kernel

/-- L51: `FLDLN2`. -/
theorem test_fldln2_L51 :
    sees (start 0x077F [] []) ⟨0xD9, 0xED, 0⟩
      { cw := 0x077F, sw := 0x3800, tw := 0x3FFF, st := [(0, ⟨0x3FFE, 0xB17217F7D1CF79AB⟩)] } := by decide +kernel

/-- W3: `FST m32real`. -/
theorem test_fst_m32real_W3 :
    sees (start 0x0B7F [⟨0x4000, 0xC90FDAA22168C235⟩] [0xEE, 0xEE, 0xEE, 0xEE]) ⟨0xD9, 0x15, 0x1000⟩
      { cw := 0x0B7F, sw := 0x3820, tw := 0x3FFF, st := [(0, ⟨0x4000, 0xC90FDAA22168C235⟩)], mem := [0xDB, 0x0F,
        0x49, 0x40] } := by decide +kernel

/-- W6: `FSTP m32real`. -/
theorem test_fstp_m32real_W6 :
    sees (start 0x0377 [⟨0x7FFE, 0xFFFFFFFFFFFFFFFF⟩] [0xEE, 0xEE, 0xEE, 0xEE]) ⟨0xD9, 0x1D, 0x1000⟩
      { cw := 0x0377, sw := 0x38A8, tw := 0x3FFF, st := [(0, ⟨0x7FFE, 0xFFFFFFFFFFFFFFFF⟩)], mem := [0xEE, 0xEE,
        0xEE, 0xEE], mf := true } := by decide +kernel

/-- W11: `FST m64real`. -/
theorem test_fst_m64real_W11 :
    sees (start 0x037F [⟨0x7FFF, 0xC000000000000001⟩] [0xEE, 0xEE, 0xEE, 0xEE, 0xEE, 0xEE, 0xEE, 0xEE]) ⟨0xDD,
        0x15, 0x1000⟩
      { cw := 0x037F, sw := 0x3800, tw := 0xBFFF, st := [(0, ⟨0x7FFF, 0xC000000000000001⟩)], mem := [0x00, 0x00,
        0x00, 0x00, 0x00, 0x00, 0xF8, 0x7F] } := by decide +kernel

/-- W17: `FSTP m80real`. -/
theorem test_fstp_m80real_W17 :
    sees (start 0x037F [] [0xEE, 0xEE, 0xEE, 0xEE, 0xEE, 0xEE, 0xEE, 0xEE, 0xEE, 0xEE]) ⟨0xDB, 0x3D, 0x1000⟩
      { cw := 0x037F, sw := 0x0841, tw := 0xFFFF, st := [], mem := [0x00, 0x00, 0x00, 0x00, 0x00, 0x00, 0x00, 0xC0,
        0xFF, 0xFF] } := by decide +kernel

/-- W22: `FST ST(i)`. -/
theorem test_fst_st_i_W22 :
    sees (start 0x037F [] []) ⟨0xDD, 0xD1, 0⟩
      { cw := 0x037F, sw := 0x0041, tw := 0xFFFB, st := [(1, indef)] } := by decide +kernel

/-- W21: `FSTP ST(i)`. -/
theorem test_fstp_st_i_W21 :
    sees (start 0x037F [one, two] []) ⟨0xDD, 0xD9, 0⟩
      { cw := 0x037F, sw := 0x3800, tw := 0x3FFF, st := [(0, one)] } := by decide +kernel

/-- W32: `FIST m16int`. -/
theorem test_fist_m16int_W32 :
    sees (start 0x037F [⟨0x400D, 0xFFFF000000000000⟩] [0xEE, 0xEE]) ⟨0xDF, 0x15, 0x1000⟩
      { cw := 0x037F, sw := 0x3821, tw := 0x3FFF, st := [(0, ⟨0x400D, 0xFFFF000000000000⟩)], mem := [0x00, 0x80] } := by decide +kernel

/-- W36: `FIST m32int`. -/
theorem test_fist_m32int_W36 :
    sees (start 0x037F [⟨0x7FFF, 0xC000000000000001⟩] [0xEE, 0xEE, 0xEE, 0xEE]) ⟨0xDB, 0x15, 0x1000⟩
      { cw := 0x037F, sw := 0x3801, tw := 0xBFFF, st := [(0, ⟨0x7FFF, 0xC000000000000001⟩)], mem := [0x00, 0x00,
        0x00, 0x80] } := by decide +kernel

/-- W38: `FISTP m32int`. -/
theorem test_fistp_m32int_W38 :
    sees (start 0x037E [pinf] [0xEE, 0xEE, 0xEE, 0xEE]) ⟨0xDB, 0x1D, 0x1000⟩
      { cw := 0x037E, sw := 0x3881, tw := 0xBFFF, st := [(0, pinf)], mem := [0xEE, 0xEE, 0xEE, 0xEE], mf := true } := by decide +kernel

/-- W40: `FISTP m64int`. -/
theorem test_fistp_m64int_W40 :
    sees (start 0x037F [⟨0xC03E, 0x8000000000000000⟩] [0xEE, 0xEE, 0xEE, 0xEE, 0xEE, 0xEE, 0xEE, 0xEE]) ⟨0xDF,
        0x3D, 0x1000⟩
      { cw := 0x037F, sw := 0x0000, tw := 0xFFFF, st := [], mem := [0x00, 0x00, 0x00, 0x00, 0x00, 0x00, 0x00, 0x80] } := by decide +kernel

/-- W43: `FBSTP`. -/
theorem test_fbstp_W43 :
    sees (start 0x037F [⟨0x400C, 0xC0E7999999999800⟩] [0xEE, 0xEE, 0xEE, 0xEE, 0xEE, 0xEE, 0xEE, 0xEE, 0xEE,
        0xEE]) ⟨0xDF, 0x35, 0x1000⟩
      { cw := 0x037F, sw := 0x0020, tw := 0xFFFF, st := [], mem := [0x45, 0x23, 0x01, 0x00, 0x00, 0x00, 0x00, 0x00,
        0x00, 0x00] } := by decide +kernel

/-- T3: `F2XM1`. -/
theorem test_f2xm1_T3 :
    sees (start 0x037F [nzero] []) ⟨0xD9, 0xF0, 0⟩
      { cw := 0x037F, sw := 0x3800, tw := 0x7FFF, st := [(0, nzero)] } := by decide +kernel

/-- T6: `FYL2X`. -/
theorem test_fyl2x_T6 :
    sees (start 0x037F [⟨0xBFFF, 0x8000000000000000⟩, one] []) ⟨0xD9, 0xF1, 0⟩
      { cw := 0x037F, sw := 0x3801, tw := 0xBFFF, st := [(0, indef)] } := by decide +kernel

/-- T10: `FYL2XP1`. -/
theorem test_fyl2xp1_T10 :
    sees (start 0x037F [⟨0xBFFF, 0x8000000000000000⟩, one] []) ⟨0xD9, 0xF9, 0⟩
      { cw := 0x037F, sw := 0x3800, tw := 0xBFFF, st := [(0, ninf)] } := by decide +kernel

/-- T14: `FPTAN`. -/
theorem test_fptan_T14 :
    sees { start 0x037F [pzero] [] with sw := (start 0x037F [pzero] []).sw ||| 0x400 } ⟨0xD9, 0xF2, 0⟩
      { cw := 0x037F, sw := 0x3000, tw := 0x4FFF, st := [(0, one), (1, pzero)] } := by decide +kernel

/-- T17: `FPATAN`. -/
theorem test_fpatan_T17 :
    sees (start 0x037F [pzero, ⟨0xBFFF, 0x8000000000000000⟩] []) ⟨0xD9, 0xF3, 0⟩
      { cw := 0x037F, sw := 0x3800, tw := 0x3FFF, st := [(0, ⟨0xBFFF, 0xC90FDAA22168C000⟩)] } := by decide +kernel

/-- T22: `FSIN`. -/
theorem test_fsin_T22 :
    sees (start 0x037F [⟨0x47CF, 0x8000000000000000⟩] []) ⟨0xD9, 0xFE, 0⟩
      { cw := 0x037F, sw := 0x3829, tw := 0xBFFF, st := [(0, indef)] } := by decide +kernel

/-- T26: `FCOS`. -/
theorem test_fcos_T26 :
    sees (start 0x037F [pzero] []) ⟨0xD9, 0xFF, 0⟩
      { cw := 0x037F, sw := 0x3800, tw := 0x3FFF, st := [(0, one)] } := by decide +kernel

/-- T28: `FSINCOS`. -/
theorem test_fsincos_T28 :
    sees (start 0x037F [⟨0x7FFF, 0xC000000000000001⟩] []) ⟨0xD9, 0xFB, 0⟩
      { cw := 0x037F, sw := 0x3000, tw := 0xAFFF, st := [(0, ⟨0x7FFF, 0xC000000000000001⟩), (1, ⟨0x7FFF,
        0xC000000000000001⟩)] } := by decide +kernel

/-- K3: `FLDCW m16`. -/
theorem test_fldcw_m16_K3 :
    sees (start 0x037F [one] [0x7F, 0x06]) ⟨0xD9, 0x2D, 0x1000⟩
      { cw := 0x067F, sw := 0x3800, tw := 0x3FFF, st := [(0, one)], mem := [0x7F, 0x06] } := by decide +kernel

/-- K5: `FSTCW m16`. -/
theorem test_fstcw_m16_K5 :
    sees (start 0x0C7F [] [0xEE, 0xEE]) ⟨0xD9, 0x3D, 0x1000⟩
      { cw := 0x0C7F, sw := 0x0000, tw := 0xFFFF, st := [], mem := [0x7F, 0x0C] } := by decide +kernel

/-- K6: `FSTSW m16`. -/
theorem test_fstsw_m16_K6 :
    sees (start 0x037F [one, two] [0xEE, 0xEE]) ⟨0xDD, 0x3D, 0x1000⟩
      { cw := 0x037F, sw := 0x3000, tw := 0x0FFF, st := [(0, one), (1, two)], mem := [0x00, 0x30] } := by decide +kernel

/-- K8: `FSTSW AX`. -/
theorem test_fstsw_ax_K8 :
    sees { start 0x037F [one] [] with sw := 0xB8C5 } ⟨0xDF, 0xE0, 0⟩
      { cw := 0x037F, sw := 0xB8C5, tw := 0x3FFF, st := [(0, one)], ax := 0xB8C5 } := by decide +kernel

/-- K10: `FCLEX`. -/
theorem test_fclex_K10 :
    sees { start 0x0340 [one] [] with sw := 0x7FBF } ⟨0xDB, 0xE2, 0⟩
      { cw := 0x0340, sw := 0x7F00, tw := 0x3FFF, st := [(0, one)] } := by decide +kernel

/-- K11: `FINIT`. -/
theorem test_finit_K11 :
    sees { start 0x0C00 [one, two] [] with sw := 0xB8C5 } ⟨0xDB, 0xE3, 0⟩
      { cw := 0x037F, sw := 0x0000, tw := 0xFFFF, st := [] } := by decide +kernel

/-- K12: `FNOP`. -/
theorem test_fnop_K12 :
    sees { start 0x037E [one] [] with sw := 0x3881 } ⟨0xD9, 0xD0, 0⟩
      { cw := 0x037E, sw := 0x3881, tw := 0x3FFF, st := [(0, one)] } := by decide +kernel

/-- K14: `FINCSTP`. -/
theorem test_fincstp_K14 :
    sees { start 0x037F [one, two] [] with sw := (start 0x037F [one, two] []).sw ||| 0x4700 } ⟨0xD9, 0xF7, 0⟩
      { cw := 0x037F, sw := 0x7F00, tw := 0x0FFF, st := [(0, two), (7, one)] } := by decide +kernel

/-- K16: `FDECSTP`. -/
theorem test_fdecstp_K16 :
    sees (start 0x037F [one, two] []) ⟨0xD9, 0xF6, 0⟩
      { cw := 0x037F, sw := 0x2800, tw := 0x0FFF, st := [(1, one), (2, two)] } := by decide +kernel

/-- K18: `FFREE ST(i)`. -/
theorem test_ffree_st_i_K18 :
    sees (start 0x037F [] []) ⟨0xDD, 0xC0, 0⟩
      { cw := 0x037F, sw := 0x0000, tw := 0xFFFF, st := [] } := by decide +kernel

/-- K21: `FXCH ST(i)`. -/
theorem test_fxch_st_i_K21 :
    sees (start 0x037F [one] []) ⟨0xD9, 0xC9, 0⟩
      { cw := 0x037F, sw := 0x3841, tw := 0xBFFC, st := [(0, indef), (1, one)] } := by decide +kernel

/-- Z1: `FMUL m32real`. -/
theorem test_fmul_m32real_Z1 :
    sees (start 0x037F [two] [0x00, 0x00, 0xC0, 0x3F]) ⟨0xD8, 0x0D, 0x1000⟩
      { cw := 0x037F, sw := 0x3800, tw := 0x3FFF, st := [(0, ⟨0x4000, 0xC000000000000000⟩)], mem := [0x00, 0x00,
        0xC0, 0x3F] } := by decide +kernel

/-- Z2: `FCOMP m32real`. -/
theorem test_fcomp_m32real_Z2 :
    sees (start 0x037F [two] [0x00, 0x00, 0xC0, 0x3F]) ⟨0xD8, 0x1D, 0x1000⟩
      { cw := 0x037F, sw := 0x0000, tw := 0xFFFF, st := [], mem := [0x00, 0x00, 0xC0, 0x3F] } := by decide +kernel

/-- Z3: `FSUB m32real`. -/
theorem test_fsub_m32real_Z3 :
    sees (start 0x037F [two] [0x00, 0x00, 0xC0, 0x3F]) ⟨0xD8, 0x25, 0x1000⟩
      { cw := 0x037F, sw := 0x3800, tw := 0x3FFF, st := [(0, ⟨0x3FFE, 0x8000000000000000⟩)], mem := [0x00, 0x00,
        0xC0, 0x3F] } := by decide +kernel

/-- Z4: `FSUBR m32real`. -/
theorem test_fsubr_m32real_Z4 :
    sees (start 0x037F [two] [0x00, 0x00, 0xC0, 0x3F]) ⟨0xD8, 0x2D, 0x1000⟩
      { cw := 0x037F, sw := 0x3800, tw := 0x3FFF, st := [(0, ⟨0xBFFE, 0x8000000000000000⟩)], mem := [0x00, 0x00,
        0xC0, 0x3F] } := by decide +kernel

/-- Z7: `FDIV m32real`. -/
theorem test_fdiv_m32real_Z7 :
    sees (start 0x037F [one] [0x00, 0x00, 0x00, 0x00]) ⟨0xD8, 0x35, 0x1000⟩
      { cw := 0x037F, sw := 0x3804, tw := 0xBFFF, st := [(0, pinf)], mem := [0x00, 0x00, 0x00, 0x00] } := by decide +kernel

/-- Z6: `FDIVR m32real`. -/
theorem test_fdivr_m32real_Z6 :
    sees (start 0x037F [⟨0x4000, 0xC000000000000000⟩] [0x00, 0x00, 0xC0, 0x3F]) ⟨0xD8, 0x3D, 0x1000⟩
      { cw := 0x037F, sw := 0x3800, tw := 0x3FFF, st := [(0, ⟨0x3FFE, 0x8000000000000000⟩)], mem := [0x00, 0x00,
        0xC0, 0x3F] } := by decide +kernel

/-- Z8: `FIADD m32int`. -/
theorem test_fiadd_m32int_Z8 :
    sees (start 0x037F [one] [0xA0, 0x86, 0x01, 0x00]) ⟨0xDA, 0x05, 0x1000⟩
      { cw := 0x037F, sw := 0x3800, tw := 0x3FFF, st := [(0, ⟨0x400F, 0xC350800000000000⟩)], mem := [0xA0, 0x86,
        0x01, 0x00] } := by decide +kernel

/-- Z9: `FICOM m32int`. -/
theorem test_ficom_m32int_Z9 :
    sees (start 0x037F [pzero] [0xFF, 0xFF, 0xFF, 0xFF]) ⟨0xDA, 0x15, 0x1000⟩
      { cw := 0x037F, sw := 0x3800, tw := 0x7FFF, st := [(0, pzero)], mem := [0xFF, 0xFF, 0xFF, 0xFF] } := by decide +kernel

/-- Z10: `FISUBR m32int`. -/
theorem test_fisubr_m32int_Z10 :
    sees (start 0x037F [two] [0x05, 0x00, 0x00, 0x00]) ⟨0xDA, 0x2D, 0x1000⟩
      { cw := 0x037F, sw := 0x3800, tw := 0x3FFF, st := [(0, ⟨0x4000, 0xC000000000000000⟩)], mem := [0x05, 0x00,
        0x00, 0x00] } := by decide +kernel

/-- Z12: `FIDIV m32int`. -/
theorem test_fidiv_m32int_Z12 :
    sees (start 0x037F [⟨0x4000, 0xC000000000000000⟩] [0x02, 0x00, 0x00, 0x00]) ⟨0xDA, 0x35, 0x1000⟩
      { cw := 0x037F, sw := 0x3800, tw := 0x3FFF, st := [(0, ⟨0x3FFF, 0xC000000000000000⟩)], mem := [0x02, 0x00,
        0x00, 0x00] } := by decide +kernel

/-- Z13: `FADD m64real`. -/
theorem test_fadd_m64real_Z13 :
    sees (start 0x037F [one] [0x9A, 0x99, 0x99, 0x99, 0x99, 0x99, 0xB9, 0x3F]) ⟨0xDC, 0x05, 0x1000⟩
      { cw := 0x037F, sw := 0x3800, tw := 0x3FFF, st := [(0, ⟨0x3FFF, 0x8CCCCCCCCCCCCD00⟩)], mem := [0x9A, 0x99,
        0x99, 0x99, 0x99, 0x99, 0xB9, 0x3F] } := by decide +kernel

/-- Z14: `FCOM m64real`. -/
theorem test_fcom_m64real_Z14 :
    sees (start 0x037F [one] [0x00, 0x00, 0x00, 0x00, 0x00, 0x00, 0xF8, 0x3F]) ⟨0xDC, 0x15, 0x1000⟩
      { cw := 0x037F, sw := 0x3900, tw := 0x3FFF, st := [(0, one)], mem := [0x00, 0x00, 0x00, 0x00, 0x00, 0x00,
        0xF8, 0x3F] } := by decide +kernel

/-- Z15: `FSUB m64real`. -/
theorem test_fsub_m64real_Z15 :
    sees (start 0x037F [one] [0x00, 0x00, 0x00, 0x00, 0x00, 0x00, 0xF8, 0x3F]) ⟨0xDC, 0x25, 0x1000⟩
      { cw := 0x037F, sw := 0x3800, tw := 0x3FFF, st := [(0, ⟨0xBFFE, 0x8000000000000000⟩)], mem := [0x00, 0x00,
        0x00, 0x00, 0x00, 0x00, 0xF8, 0x3F] } := by decide +kernel

/-- Z16: `FSUBR m64real`. -/
theorem test_fsubr_m64real_Z16 :
    sees (start 0x037F [one] [0x00, 0x00, 0x00, 0x00, 0x00, 0x00, 0xF8, 0x3F]) ⟨0xDC, 0x2D, 0x1000⟩
      { cw := 0x037F, sw := 0x3800, tw := 0x3FFF, st := [(0, ⟨0x3FFE, 0x8000000000000000⟩)], mem := [0x00, 0x00,
        0x00, 0x00, 0x00, 0x00, 0xF8, 0x3F] } := by decide +kernel

/-- Z17: `FDIV m64real`. -/
theorem test_fdiv_m64real_Z17 :
    sees (start 0x037F [⟨0x4000, 0xC000000000000000⟩] [0x00, 0x00, 0x00, 0x00, 0x00, 0x00, 0xF8, 0x3F]) ⟨0xDC,
        0x35, 0x1000⟩
      { cw := 0x037F, sw := 0x3800, tw := 0x3FFF, st := [(0, two)], mem := [0x00, 0x00, 0x00, 0x00, 0x00, 0x00,
        0xF8, 0x3F] } := by decide +kernel

/-- Z18: `FDIVR m64real`. -/
theorem test_fdivr_m64real_Z18 :
    sees (start 0x037F [⟨0x4000, 0xC000000000000000⟩] [0x00, 0x00, 0x00, 0x00, 0x00, 0x00, 0xF8, 0x3F]) ⟨0xDC,
        0x3D, 0x1000⟩
      { cw := 0x037F, sw := 0x3800, tw := 0x3FFF, st := [(0, ⟨0x3FFE, 0x8000000000000000⟩)], mem := [0x00, 0x00,
        0x00, 0x00, 0x00, 0x00, 0xF8, 0x3F] } := by decide +kernel

/-- Z23: `FADD ST(i),ST`. -/
theorem test_fadd_st_i_st_Z23 :
    sees (start 0x037F [⟨0x4000, 0xC000000000000000⟩] []) ⟨0xDC, 0xC0, 0⟩
      { cw := 0x037F, sw := 0x3800, tw := 0x3FFF, st := [(0, ⟨0x4001, 0xC000000000000000⟩)] } := by decide +kernel

/-- Z20: `FMUL ST(i),ST`. -/
theorem test_fmul_st_i_st_Z20 :
    sees (start 0x037F [⟨0x4000, 0xC000000000000000⟩, pzero, two] []) ⟨0xDC, 0xCA, 0⟩
      { cw := 0x037F, sw := 0x2800, tw := 0x13FF, st := [(0, ⟨0x4000, 0xC000000000000000⟩), (1, pzero), (2,
        ⟨0x4001, 0xC000000000000000⟩)] } := by decide +kernel

/-- Z21: `FDIVR ST(i),ST`. -/
theorem test_fdivr_st_i_st_Z21 :
    sees (start 0x037F [one, two] []) ⟨0xDC, 0xF1, 0⟩
      { cw := 0x037F, sw := 0x3000, tw := 0x0FFF, st := [(0, one), (1, ⟨0x3FFE, 0x8000000000000000⟩)] } := by decide +kernel

/-- Z22: `FDIV ST(i),ST`. -/
theorem test_fdiv_st_i_st_Z22 :
    sees (start 0x037F [two, one] []) ⟨0xDC, 0xF9, 0⟩
      { cw := 0x037F, sw := 0x3000, tw := 0x0FFF, st := [(0, two), (1, ⟨0x3FFE, 0x8000000000000000⟩)] } := by decide +kernel

/-- Z24: `FIMUL m16int`. -/
theorem test_fimul_m16int_Z24 :
    sees (start 0x037F [⟨0x4000, 0xC000000000000000⟩] [0xFE, 0xFF]) ⟨0xDE, 0x0D, 0x1000⟩
      { cw := 0x037F, sw := 0x3800, tw := 0x3FFF, st := [(0, ⟨0xC001, 0xC000000000000000⟩)], mem := [0xFE, 0xFF] } := by decide +kernel

/-- Z25: `FICOMP m16int`. -/
theorem test_ficomp_m16int_Z25 :
    sees (start 0x037F [two] [0x02, 0x00]) ⟨0xDE, 0x1D, 0x1000⟩
      { cw := 0x037F, sw := 0x4000, tw := 0xFFFF, st := [], mem := [0x02, 0x00] } := by decide +kernel

/-- Z26: `FISUB m16int`. -/
theorem test_fisub_m16int_Z26 :
    sees (start 0x037F [one] [0x01, 0x00]) ⟨0xDE, 0x25, 0x1000⟩
      { cw := 0x037F, sw := 0x3800, tw := 0x7FFF, st := [(0, pzero)], mem := [0x01, 0x00] } := by decide +kernel

/-- Z27: `FISUBR m16int`. -/
theorem test_fisubr_m16int_Z27 :
    sees (start 0x037F [⟨0x4000, 0xC000000000000000⟩] [0x01, 0x00]) ⟨0xDE, 0x2D, 0x1000⟩
      { cw := 0x037F, sw := 0x3800, tw := 0x3FFF, st := [(0, ⟨0xC000, 0x8000000000000000⟩)], mem := [0x01, 0x00] } := by decide +kernel

/-- Z28: `FIDIVR m16int`. -/
theorem test_fidivr_m16int_Z28 :
    sees (start 0x037F [two] [0x03, 0x00]) ⟨0xDE, 0x3D, 0x1000⟩
      { cw := 0x037F, sw := 0x3800, tw := 0x3FFF, st := [(0, ⟨0x3FFF, 0xC000000000000000⟩)], mem := [0x03, 0x00] } := by decide +kernel

/-- Z30: `FMULP ST(i),ST`. -/
theorem test_fmulp_st_i_st_Z30 :
    sees (start 0x037F [⟨0x4000, 0xC000000000000000⟩, two] []) ⟨0xDE, 0xC8, 0⟩
      { cw := 0x037F, sw := 0x3800, tw := 0x3FFF, st := [(0, two)] } := by decide +kernel

/-- Z32: `FISTP m16int`. -/
theorem test_fistp_m16int_Z32 :
    sees (start 0x037F [⟨0x400E, 0x9C40000000000000⟩] []) ⟨0xDF, 0x1D, 0x1000⟩
      { cw := 0x037F, sw := 0x0001, tw := 0xFFFF, st := [], mem := [0x00, 0x80] } := by decide +kernel

/-- E1: `FSTENV m14byte`. -/
theorem test_fstenv_E1 :
    sees { start 0x027F [one, pzero] [] with opsize32 := false } ⟨0xD9, 0x35, 0x1000⟩
      { cw := 0x027F, sw := 0x3000, tw := 0x4FFF, st := [(0, one), (1, pzero)],
        mem := [0x7F, 0x02, 0x00, 0x30, 0xFF, 0x4F, 0x00] } := by decide +kernel

/-- E2: `FSTENV m28byte`. -/
theorem test_fstenv_E2 :
    sees (start 0x027F [one, pzero] [0xEE, 0xEE, 0xEE]) ⟨0xD9, 0x35, 0x1000⟩
      { cw := 0x027F, sw := 0x3000, tw := 0x4FFF, st := [(0, one), (1, pzero)],
        mem := [0x7F, 0x02, 0xEE, 0x00, 0x00, 0x30, 0x00, 0x00, 0xFF, 0x4F, 0x00] } := by decide +kernel

/-- E3: `FLDENV m14byte`. -/
theorem test_fldenv_E3 :
    sees { start 0x037F [one, pzero] [0x7F, 0x0B, 0x00, 0x08, 0xFC, 0xFF] with opsize32 := false, sw := 0x3021 }
      ⟨0xD9, 0x25, 0x1000⟩
      { cw := 0x0B7F, sw := 0x0800, tw := 0xFFFC, st := [(5, one), (6, pzero)] } := by decide +kernel

/-- E6: `FSAVE m108byte`, the words, the gaps and the first image. -/
theorem test_fsave_E6 :
    sees { start 0x0A7F [one, pzero, pinf] [] with sw := 0x2821 } ⟨0xDD, 0x35, 0x1000⟩
      { cw := 0x0A7F, sw := 0x2821, tw := 0x93FF, st := [(0, one), (1, pzero), (2, pinf)],
        mem := [0x7F, 0x0A, 0, 0, 0x21, 0x28, 0, 0, 0xFF, 0x93, 0, 0, 0, 0, 0, 0, 0, 0, 0, 0, 0, 0, 0, 0, 0, 0, 0, 0,
          0, 0, 0, 0, 0, 0, 0, 0x80, 0xFF, 0x3F] } := by decide +kernel

/-- E5: `FRSTOR m94byte`, re-tagging. -/
theorem test_frstor_E5 :
    sees { start 0x037F [] [0x7F, 0x03, 0x00, 0x30, 0xFF, 0x0F, 0, 0, 0, 0, 0, 0, 0, 0,
        0, 0, 0, 0, 0, 0, 0, 0, 0, 0, 0, 0, 0, 0, 0, 0, 0, 0x80, 0xFF, 0x7F,
        0, 0, 0, 0, 0, 0, 0, 0xC0, 0x00, 0x40] with opsize32 := false } ⟨0xDD, 0x25, 0x1000⟩
      { cw := 0x037F, sw := 0x3000, tw := 0x9FFF,
        st := [(0, pzero), (1, pinf), (2, ⟨0x4000, 0xC000000000000000⟩)] } := by decide +kernel

/-- SC1: `FADDP ST(1),ST` on [PZERO, ONE]. -/
theorem test_faddp_SC1 :
    sees (start 0x037F [pzero, one] []) ⟨0xDE, 0xC1, 0⟩
      { cw := 0x037F, sw := 0x3800, tw := 0x3FFF, st := [(0, one)] } := by decide +kernel

/-- SC2: `FSTP m64real` of pi. -/
theorem test_fstp_m64real_SC2 :
    sees (start 0x037F [⟨0x4000, 0xC90FDAA22168C235⟩] []) ⟨0xDD, 0x1D, 0x1000⟩
      { cw := 0x037F, sw := 0x0020, tw := 0xFFFF, st := [],
        mem := [0x18, 0x2D, 0x44, 0x54, 0xFB, 0x21, 0x09, 0x40] } := by decide +kernel

/-- M55: `FPREM1` of 7 by 2; the codes are free. -/
theorem test_fprem1_M55 :
    (prem1Of ⟨0x4001, 0xE000000000000000⟩ two (start 0x037F [] [])).1 = ⟨0xBFFF, 0x8000000000000000⟩ := by decide +kernel

/-- `FIDIV m16int`: one over minus two (43_arithmetic.md R297). -/
theorem test_fidiv_m16int :
    sees (start 0x037F [one] [0xFE, 0xFF]) ⟨0xDE, 0x35, 0x1000⟩
      { cw := 0x037F, sw := 0x3800, tw := 0x3FFF, st := [(0, ⟨0xBFFE, 0x8000000000000000⟩)] } := by decide +kernel

/-- `FIMUL m32int`: two times minus one (43_arithmetic.md R288). -/
theorem test_fimul_m32int :
    sees (start 0x037F [two] [0xFF, 0xFF, 0xFF, 0xFF]) ⟨0xDA, 0x0D, 0x1000⟩
      { cw := 0x037F, sw := 0x3800, tw := 0x3FFF, st := [(0, ⟨0xC000, 0x8000000000000000⟩)] } := by decide +kernel

/-! ## The command port and the host -/

/-- H2 and H3: the command `fistp` of 2.5, toward zero and up; CW.RC stays. -/
theorem test_port_fistp_H2_H3 :
    let s := start 0x037F [⟨0x4000, 0xA000000000000000⟩] []
    (portStep (.fistp .w32 3) s).portOut = some 2 ∧ (portStep (.fistp .w32 2) s).portOut = some 3 ∧
      (portStep (.fistp .w32 3) s).sw = 0x0020 ∧ (portStep (.fistp .w32 3) s).rm = .rn := by decide +kernel

/-- H4: with IM clear nothing is delivered and nothing popped. -/
theorem test_port_fistp_H4 :
    let t := portStep (.fistp .w16 0) (start 0x037E [pinf] [])
    t.portOut = none ∧ t.sw = 0x3881 ∧ t.rm = .rn ∧ t.mfRequest = true := by decide +kernel

/-- H7: `fclex()`. -/
theorem test_port_fclex_H7 :
    (portStep .fclex { start 0x037F [one] [] with sw := 0xB8C5 }).sw = 0x3800 := by decide +kernel

/-- A refused read ends the handler with the block as it was (20_memory.md R79). -/
theorem test_host_fault :
    let s : State := { start 0x037F [one] [] with guards := [⟨.read, 0x1003, 0x1003⟩] }
    exec (.faddM32real ⟨0, 5, 0x1000⟩) s = .next { s with hostFault := some ⟨.read, 0x1000⟩ } := rfl

/-- `FXTRACT` of a zero on a full stack: ZE beside SF and IE, by the pseudocode of 44_misc_arith.md R336. -/
theorem test_fxtract_full :
    sees (start 0x037F [pzero, one, one, one, one, one, one, one] []) ⟨0xD9, 0xF4, 0⟩
      { cw := 0x037F, sw := 0x3A45, tw := 0x8002,
        st := [(0, indef), (1, indef), (2, one), (3, one), (4, one), (5, one), (6, one), (7, one)] } := by
  decide +kernel

/-- M43: `FXTRACT` of one on a full stack. -/
theorem test_fxtract_M43 :
    sees (start 0x037F [one, one, one, one, one, one, one, one] []) ⟨0xD9, 0xF4, 0⟩
      { cw := 0x037F, sw := 0x3A41, tw := 0x8002,
        st := [(0, indef), (1, indef), (2, one), (3, one), (4, one), (5, one), (6, one), (7, one)] } := by
  decide +kernel

/-- The `i386_trap` of a failed funnel that does not return loses the cycle report, and nothing else
(70_reset_and_hazards.md R553). -/
theorem test_trap_leaves :
    let p : Params := { Params.recommended with cycles := List.replicate 129 7 }
    let s : State := { start 0x037E [] [] with params := p }
    let t : State := { s with trapReturns := false }
    let after (s : State) : State := { s with sw := 0x00C1, mfRequest := true }
    exec .fabs s = .next { after s with cycles := 7 } ∧ exec .fabs t = .next (after t) ∧
      exec .fabs { t with honorsMf := false } =
        .next { t with sw := 0x00C1, honorsMf := false, cycles := 7 } := ⟨rfl, rfl, rfl⟩

/-- The host's `reset()` leaves the registers and the host's side (70_reset_and_hazards.md R540). -/
theorem test_host_reset :
    hostStep .reset { start 0x0C00 [one] [] with ax := 7 } =
      { State.reset with regs := (start 0x0C00 [one] []).regs, ax := 7 } := by decide +kernel

/-! ## Witnesses: the hypotheses of the statements are met -/

/-- Two values on the stack, everything masked, nothing pending. -/
def calm : State := start 0x037F [one, two] [0x00, 0x00, 0xC0, 0x3F]

/-- The same with IE pending unmasked. -/
def alarmed : State := { calm with cw := 0x0340, sw := 0x3001 }

/-- An operand in memory. -/
def operand : MemOperand := ⟨0, 5, 0x1000⟩

/-- What nearly every statement asks of the state: an idle kernel and two supported operands, with room for a push. -/
theorem witness_calm :
    calm.fx = KFlags.empty ∧ calm.guards = [] ∧ calm.isEmpty 0 = false ∧ calm.isEmpty 1 = false ∧
      calm.isEmpty 7 = true ∧ (calm.st 0).isUnsupported = false ∧ (calm.st 1).isUnsupported = false ∧
      pcOf calm.cw ≠ 1#2 := by decide +kernel

/-- The premise of the first half of `settles`, whatever SW the instruction leaves: everything is masked. -/
theorem witness_settles_completes (sw : Word) : pendingOf calm.cw sw = 0#6 := by
  have h : ~~~low6 calm.cw = 0#6 := by decide +kernel
  simp [pendingOf, h]

/-- The premise of the second half of `settles`: an unmasked latch that no instruction clears. -/
theorem witness_settles_suppresses (sw : Word) (h : sw.getLsbD 0 = true) : pendingOf alarmed.cw sw ≠ 0#6 := by
  intro e
  have := congrArg (fun w => w.getLsbD 0) e
  rw [BitVec.getLsbD_eq_getElem (by decide)] at h
  simp [pendingOf, low6, alarmed, h] at this

theorem witness_alarmed : alarmed.fx = KFlags.empty ∧ alarmed.guards = [] ∧ alarmed.sw.getLsbD 0 = true := by
  decide +kernel

/-- The host lets every access of the two states through. -/
theorem witness_accesses (n : Nat) :
    calm.readable operand n ∧ calm.writable operand n ∧ calm.readable80 operand ∧ calm.writable80 operand ∧
      alarmed.readable operand n ∧ alarmed.writable operand n ∧ alarmed.readable80 operand ∧
      alarmed.writable80 operand :=
  ⟨⟨rfl, rfl⟩, ⟨rfl, rfl⟩, ⟨rfl, rfl, rfl⟩, ⟨rfl, rfl, rfl⟩, ⟨rfl, rfl⟩, ⟨rfl, rfl⟩, ⟨rfl, rfl, rfl⟩, ⟨rfl, rfl, rfl⟩⟩

theorem witness_DecodeInvertsEncode :
    (Instr.faddM32real ⟨2, 7, 0xFFFFFFFF⟩).wellFormed = true ∧ (Instr.fxch 7).wellFormed = true := by decide

theorem witness_EncodeInvertsDecode :
    decode ⟨0xDF, 0xBF, 5⟩ = .instr (.fistpM64int ⟨2, 7, 5⟩) ∧ decode ⟨0xD8, 0xC0, 5⟩ = .instr (.faddStSti 0) := by
  decide

theorem witness_StepRunsTheNextCall :
    ({ calm with stream := [.insn ⟨0xD9, 0xE8, 0⟩] } : State).stream[calm.pos]? = some (.insn ⟨0xD9, 0xE8, 0⟩) ∧
      decode ⟨0xD9, 0xE8, 0⟩ = .instr .fld1 ∧
      ({ calm with stream := [.port .wait] } : State).stream[calm.pos]? = some (.port .wait) ∧
      ({ calm with stream := [.event .reset] } : State).stream[calm.pos]? = some (.event .reset) ∧
      calm.stream[calm.pos]? = none := by decide +kernel

/-- All three outcomes of a step occur, the stops on such bytes as the statement names. -/
theorem witness_StepStopsOnlyOnBadBytes :
    calm.goesOn ∧
      step { calm with stream := [.insn ⟨0xD9, 0xD1, 0⟩] } = .fault (.fatalDecode 1 0xD1) ∧
      step { calm with stream := [.insn ⟨0xE0, 0x00, 0⟩] } = .refused (.notEscape 0xE0) ∧
      invalidEntry 1 0xD1 = true ∧ (0xD9#8) = 0b11011#5 ++ 1#3 ∧ 0xDF#8 < 0xE0#8 :=
  ⟨⟨_, rfl⟩, rfl, rfl, by decide, by decide, by decide⟩

theorem witness_StepKeepsInv :
    calm.mem.wf = true ∧ calm.fx = KFlags.empty ∧ calm.rm = rcTable (rcOf calm.cw) ∧
      ∃ t, step (calm.withFetchWord 16 0xD9E8) = .next t := ⟨by decide +kernel, rfl, by decide +kernel, _, rfl⟩

/-- The answer of an instruction that the host does not end. -/
theorem witness_exec :
    (∃ t, exec .fld1 calm = .next t) ∧ (∃ t, exec (.fxch 1) calm = .next t) ∧ (∃ t, exec .fcompp calm = .next t) ∧
      (∃ t, exec (.frstor operand) calm = .next t) ∧ (∃ t, exec (.fsave operand) calm = .next t) ∧
      ∃ t, exec .fnop alarmed = .next t := ⟨⟨_, rfl⟩, ⟨_, rfl⟩, ⟨_, rfl⟩, ⟨_, rfl⟩, ⟨_, rfl⟩, ⟨_, rfl⟩⟩

theorem witness_TagsAgreeExceptAfterFldenv :
    (∀ p : Slot, tagOfSlot calm.tw p = tagEmpty ∨ tagOfSlot calm.tw p = tagOf (calm.reg p)) ∧ calm.guards = [] := by
  decide +kernel

/-- The boundary latches 0, 6 and the bits 1, 15 of LatchesAreSticky. -/
theorem witness_LatchesAreSticky :
    ({ calm with sw := 0x3041 } : State).sw.getLsbD 0 = true ∧ ({ calm with sw := 0x3041 } : State).sw.getLsbD 6 = true ∧
      calm.sw.getLsbD 1 = false ∧ calm.sw.getLsbD 15 = false ∧ calm.params.fsaveReinit = false := by decide +kernel

theorem witness_ControlWordAndPointersChangedOnlyBy :
    calm.params.fsaveReinit = false ∧ calm.params.fstenvMasks = false ∧ ∃ t, exec .fabs calm = .next t :=
  ⟨rfl, rfl, _, rfl⟩

/-- The `stored` clauses of HostFrame and the register clauses of StackFrame apply to these. -/
theorem witness_HostFrame_StackFrame :
    Instr.fld1.stored true = none ∧ (Instr.fsave operand).stored true = some (operand, 108) ∧
      inBytes operand.ea 108 0x106C = false ∧ inBytes operand.ea 108 0x106B = true ∧
      (4 : Slot) ∉ Instr.fld1.targets.map (calm.top + ·) := by decide +kernel

theorem witness_UnfunneledNeverRequestMathFault :
    Instr.fxam.funneledIn alarmed = false ∧ (Instr.fcmovb 1).funneledIn alarmed = false := by decide +kernel

theorem witness_CommitIsAllOrNothing :
    (Instr.fcompp).funneledIn calm = true ∧ (Instr.fabs).funneledIn alarmed = true := by decide +kernel

theorem witness_PendingExceptionSuppresses :
    Instr.fabs.funneledIn alarmed = true ∧ (Instr.fcmovnb 1).funneledIn alarmed = true ∧
      pendingOf alarmed.cw alarmed.sw ≠ 0#6 := by decide +kernel

/-- A host that refuses one kind of access to one byte. -/
def guarding (a : Access) (addr : Addr) : State := { calm with guards := [⟨a, addr, addr⟩] }

theorem witness_HostFaultOnReadLeavesBlock :
    (Instr.faddM32real operand).access = some (false, 4, operand) ∧
      (guarding (.getEa false) 0x1000).guarded (.getEa false) operand.ea 1 = true ∧
      (guarding .read 0x1003).guarded .read operand.ea 4 = true ∧
      (guarding .read 0x1004).guarded .read operand.ea 4 = false ∧
      (guarding .read 0x1009).guarded .read operand.ea 8 = false ∧
      (guarding .read 0x1009).guarded .read (operand.ea + 8) 2 = true ∧
      (Instr.frstor operand).access = some (false, 2, operand) ∧ calm.opsize32 = true ∧
      (guarding .read 0x1005).guarded .read operand.ea 2 = false ∧
      (guarding .read 0x1005).guarded .read (operand.ea + 4) 2 = true ∧
      (guarding .read 0x1008).guarded .read (operand.ea + 4) 2 = false ∧
      (guarding .read 0x1008).guarded .read (operand.ea + 2 * 4) 2 = true := by decide +kernel

/-- The first and the last part of the images of a save area, refused for reading and for writing. -/
theorem witness_endsAtImage :
    (guarding .read 0x101C).endsAtImage .read operand.ea 0 0x101C ∧
      (guarding .read 0x106B).endsAtImage .read operand.ea 7 0x106A ∧
      (guarding .write 0x1023).endsAtImage .write operand.ea 0 0x101C ∧
      (guarding .write 0x106A).endsAtImage .write operand.ea 7 0x106A := by
  unfold State.endsAtImage
  decide +kernel

theorem witness_HostFaultOnWriteKeepsStack :
    (Instr.fstpM64real operand).access = some (true, 8, operand) ∧
      (guarding .write 0x1007).guarded (.getEa true) operand.ea 1 = false ∧
      (guarding .write 0x1007).guarded .write operand.ea 8 = true ∧
      (Instr.fbstp operand).access = some (true, 8, operand) ∧
      (guarding .write 0x1008).guarded .write operand.ea 8 = false ∧
      (guarding .write 0x1008).guarded .write (operand.ea + 8) 2 = true := by decide +kernel

/-- Both ends of a second write that the host refuses: the store gets as far as its first eight bytes, or the funnel has
failed before it. -/
theorem witness_HostFaultOnWriteKeepsStack_second :
    (∃ t, exec (.fstpM80real operand) (guarding .write 0x1008) = .next t ∧ pendingOf t.cw t.sw = 0#6 ∧
        t.mem = calm.mem.writeLE 8 0x1000 one.low.toNat) ∧
      ∃ t, exec (.fbstp operand) { alarmed with guards := [⟨.write, 0x1008, 0x1008⟩] } = .next t ∧
        pendingOf t.cw t.sw ≠ 0#6 :=
  ⟨⟨_, rfl, by decide +kernel, by decide +kernel⟩, ⟨_, rfl, by decide +kernel⟩⟩

/-- The funneled stores and the others, with a first write refused, with one refused after the first word, and with
nothing pending and something pending. -/
theorem witness_HostFaultOnWriteKeepsStack_words :
    (Instr.fistpM64int operand).storeWord (guarding .write 0x1007) = some 0x3000 ∧
      pendingOf calm.cw 0x3000#16 = 0#6 ∧ (Instr.fbstp operand).storeWord alarmed = some 0x3001 ∧
      pendingOf alarmed.cw 0x3001#16 ≠ 0#6 ∧ (Instr.fstcw operand).storeWord calm = none ∧
      (guarding .write 0x1004).guarded .write operand.ea 2 = false ∧
      (guarding .write 0x1004).guarded .write (operand.ea + 4) 2 = true ∧
      (guarding .write 0x1008).guarded .write (operand.ea + 4) 2 = false ∧
      (guarding .write 0x1008).guarded .write (operand.ea + 2 * 4) 2 = true := by decide +kernel

/-- The two clauses on round to integer: an infinity, and one. -/
theorem witness_RintDirectionIsR139 :
    pinf.isUnsupported = false ∧ pinf.isFinite = false ∧ one.isUnsupported = false ∧ one.isFinite = true ∧
      one.isZero = false ∧ fxIsAbs one 1 := by
  have e1 : (max one.exp.toNat 1 : Nat) = 16383 := by decide
  have l1 : one.low.toNat = 2 ^ 63 := by decide
  refine ⟨by decide, by decide, by decide, by decide, by decide, ?_⟩
  rw [fxIsAbs, e1, l1]; norm_num

/-- Both settings of NAN_SELECT, and a NaN. -/
theorem witness_ArithmeticRoundsOnce_nan :
    (⟨.rn, .largerSignificand⟩ : KMode).nanSelect = .largerSignificand ∧
      (⟨.rn, .anyQuiet⟩ : KMode).nanSelect = .anyQuiet ∧ (Val.nan false 1).isNan = true ∧
      (Val.zero false).isNan = false := ⟨rfl, rfl, rfl, rfl⟩

/-- A number whose integer part is not the number: minus one and a half. -/
theorem witness_ScaleResult :
    (⟨0xBFFF, 0xC000000000000000⟩ : Fx80).isUnsupported = false ∧ (⟨0xBFFF, 0xC000000000000000⟩ : Fx80).isFinite = true ∧
      integerOf ⟨0xBFFF, 0xC000000000000000⟩ = -1 ∧ fxIsAbs ⟨0xBFFF, 0xC000000000000000⟩ 1.5 := by
  have e1 : (max (⟨0xBFFF, 0xC000000000000000⟩ : Fx80).exp.toNat 1 : Nat) = 16383 := by decide
  have l1 : (⟨0xBFFF, 0xC000000000000000⟩ : Fx80).low.toNat = 3 * 2 ^ 62 := by decide
  refine ⟨by decide, by decide, by decide +kernel, ?_⟩
  rw [fxIsAbs, e1, l1]; norm_num

/-- Operands of the kernel's statements: one third, and the two terms of an exact zero sum. -/
theorem witness_kernel : (1 : Nat) ≠ 0 ∧ (3 : Nat) ≠ 0 ∧ (3 : Nat) < 2 ^ 64 ∧ (-16445 : Int) ≤ -16445 ∧
    ((1 : Nat).log2 : Int) + 16383 ≤ 16383 ∧
    (0 < (1 : ℝ) * (1 * 2 ^ (0 : ℤ)) + 1 * (1 * 2 ^ (0 : ℤ))) ∧
    ((1 : ℝ) * (1 * 2 ^ (0 : ℤ)) + (-1) * (3 * 2 ^ (0 : ℤ)) < 0) ∧
    ((1 : ℝ) * (1 * 2 ^ (0 : ℤ)) + (-1) * (1 * 2 ^ (0 : ℤ)) = 0) := by
  refine ⟨by decide, by decide, by decide, by decide, by decide, ?_, ?_, ?_⟩ <;> norm_num

/-- The three cases of RemainderIsExact: 5, 7 and 8 by 4. -/
theorem witness_RemainderIsExact :
    ((1 : ℤ) * ((4 : ℕ) * (2 : ℝ) ^ (0 : ℤ)) < (5 : ℕ) * (2 : ℝ) ^ (0 : ℤ)) ∧
      ((7 : ℕ) * (2 : ℝ) ^ (0 : ℤ) < (2 : ℤ) * ((4 : ℕ) * (2 : ℝ) ^ (0 : ℤ))) ∧
      ((8 : ℕ) * (2 : ℝ) ^ (0 : ℤ) = (2 : ℤ) * ((4 : ℕ) * (2 : ℝ) ^ (0 : ℤ))) := by norm_num

/-- Both cases of PartialRemainderIsR337: exponents 0 and 0, 64 and 0. -/
theorem witness_PartialRemainderIsR337 :
    one.isUnsupported = false ∧ one.isFinite = true ∧ one.isZero = false ∧ fxIsAbs one 1 ∧
      (⟨0x403F, 0x8000000000000000⟩ : Fx80).isUnsupported = false ∧
      fxIsAbs ⟨0x403F, 0x8000000000000000⟩ ((2 : ℝ) ^ (64 : ℤ)) ∧
      (2 : ℝ) ^ (0 : ℤ) ≤ 1 ∧ (1 : ℝ) < 2 ^ ((0 : ℤ) + 1) ∧ (2 : ℝ) ^ (64 : ℤ) < 2 ^ ((64 : ℤ) + 1) := by
  have e1 : (max one.exp.toNat 1 : Nat) = 16383 := by decide
  have e2 : (max (⟨0x403F, 0x8000000000000000⟩ : Fx80).exp.toNat 1 : Nat) = 16447 := by decide
  have l1 : one.low.toNat = 2 ^ 63 := by decide
  have l2 : (⟨0x403F, 0x8000000000000000⟩ : Fx80).low.toNat = 2 ^ 63 := by decide
  refine ⟨by decide, by decide, by decide, ?_, by decide, ?_, by norm_num, by norm_num, by norm_num⟩
  · rw [fxIsAbs, e1, l1]; norm_num
  · rw [fxIsAbs, e2, l2]; norm_num

/-- The carry-out significand and the largest integer a format of 64 bits holds. -/
theorem witness_ExtendedEncodingIsExact :
    (-16445 : Int) ≤ 0 + (64 : Nat) ∧ ((1 : Nat).log2 : Int) + (64 : Nat) + 0 ≤ 16383 ∧ (2 ^ 64 - 1 : Nat) < 2 ^ 64 ∧
      ((2 ^ 64 - 1 : Nat).log2 : Int) + (16320 : Nat) + 0 ≤ 16383 ∧ (-16445 : Int) ≤ -16446 + (1 : Nat) := by decide

theorem witness_IntegerRoundTrip : (999999999999999999 : Nat) < 10 ^ 18 ∧ (-2 ^ 63 : Int).natAbs < 2 ^ 64 := by decide

theorem witness_NarrowFormatsRoundTrip :
    (unpackF32 0x00000001).isNan = false ∧ (unpackF64 0x7FF0000000000000).isNan = false := by decide +kernel

/-- The classes of operands that NarrowFormatsRoundTrip tells apart: one value, one zero, one infinity, one NaN, and the
fields of images of each kind. -/
theorem witness_NarrowFormatsRoundTrip_classes :
    one.isUnsupported = false ∧ one.isFinite = true ∧ one.isZero = false ∧ pzero.isZero = true ∧ pinf.isInf = true ∧
      indef.isNan = true ∧ indef.isUnsupported = false ∧
      (0x00000001#32).extractLsb' 23 8 = 0 ∧ (0x7F000000#32).extractLsb' 23 8 = 254 ∧
      (0x7F800000#32).extractLsb' 23 8 = 255 ∧ (0x7F800000#32).extractLsb' 0 23 = 0 ∧
      (0x7FC00000#32).extractLsb' 0 23 ≠ 0 ∧ (0x7FE0000000000000#64).extractLsb' 52 11 = 2046 ∧
      (0x7FF8000000000000#64).extractLsb' 52 11 = 2047 ∧ (0x7FF8000000000000#64).extractLsb' 0 52 ≠ 0 := by decide

theorem witness_TranscendentalSpecialValues :
    (0xFFF0000000000000#64).getLsbD 63 = true ∧ (unpackF64 0xFFF0000000000000).isNan = false ∧
      unpackF64 0xC000000000000000 = .fin true (2 ^ 52) (-51) ∧ d64MinusOne < 0xBFF0000000000001#64 ∧
      (unpackF64 0xBFF0000000000001).isNan = false := by decide +kernel

/-- The smallest operand of `TRANS_2XM1` beyond the range, and a power of two. -/
theorem witness_TranscendentalSpecialValues_powers :
    unpackF64 0x4090000000000000 = .fin false (2 ^ 52) (-42) ∧
      1024 ≤ ((2 ^ 52 : Nat) : ℝ) * (2 : ℝ) ^ (-42 : ℤ) ∧
      ((2 ^ 52 : Nat) : ℝ) * (2 : ℝ) ^ (-42 : ℤ) = (2 : ℝ) ^ (10 : ℤ) :=
  ⟨by decide +kernel, by norm_num, by norm_num⟩

/-- A signaling NaN and a denormal image, and images that are neither, in both formats. -/
theorem witness_screens :
    MemSrc.f32.signals 0x7F800001 = true ∧ MemSrc.f32.signals 0x7FC00000 = false ∧ MemSrc.f32.tiny 0x00000001 = true ∧
      MemSrc.f32.tiny 0x00800000 = false ∧ MemSrc.f64.signals 0xFFF0000000000001 = true ∧
      MemSrc.f64.signals 0x7FF0000000000000 = false ∧ MemSrc.f64.tiny 0x000FFFFFFFFFFFFF = true ∧
      MemSrc.f64.tiny 0x8000000000000000 = false := by decide

/-- A full stack, for ExtractResult and TranscendentalsThatPush. -/
theorem witness_pushCheck :
    let s := start 0x037F [pzero, one, one, one, one, one, one, one] []
    s.fx = KFlags.empty ∧ s.isEmpty 0 = false ∧ s.isEmpty 7 = false ∧ (s.st 0).isUnsupported = false := by
  decide +kernel

/-- The operands whose order ComparesOnStack states: infinities, and the zeros with their values. -/
theorem witness_ComparesOnStack_order :
    pinf.isUnsupported = false ∧ pinf.isNan = false ∧ nzero.isUnsupported = false ∧ nzero.isNan = false ∧
      fxIsReal nzero 0 ∧ fxIsReal pzero 0 := by
  have l1 : nzero.low.toNat = 0 := rfl
  have l2 : pzero.low.toNat = 0 := rfl
  refine ⟨by decide, by decide, by decide, by decide, ?_, ?_⟩
  · rw [fxIsReal, l1]; simp
  · rw [fxIsReal, l2]; simp

/-- Every class of factor of the binary64 product. -/
theorem witness_TranscendentalsThatPop_product :
    unpackF64 0x3FF0000000000000 = .fin false (2 ^ 52) (-52) ∧ unpackF64 0x8000000000000000 = .zero true ∧
      unpackF64 0x7FF0000000000000 = .inf false := by decide +kernel

/-- The rows of the loads, stores, arithmetic and compares all have members, and both branches of the conditional moves
occur on one state. -/
theorem witness_rows :
    loadRows.length = 5 ∧ (constRows 0 true).length = 7 ∧ intStoreRows.length = 5 ∧ arithMemRows.length = 24 ∧
      arithRegRows.length = 18 ∧ cmpMemRows.length = 8 ∧ (cmpRegRows 1).length = 6 ∧ (cmpFlagRows 1).length = 4 ∧
      ((cmovRows 1 calm.cf calm.zf calm.pf).map (·.2)) = [false, false, false, false, true, true, true, true] := by
  decide +kernel

/-- What the open arithmetic with a memory operand asks; the reasons why it is open are the next witness. -/
theorem witness_OpenArithmeticRuns_memory :
    MemSrc.f32.signals (calm.mem.readLE 4 0x1000) = false ∧ calm.isEmpty 0 = false ∧
      precheck .add (calm.st 0) (MemSrc.f32.value (calm.mem.readLE 4 0x1000)) = false := by decide +kernel

/-- Each reason why arithmetic is open: PC = 01, an unsupported operand. -/
theorem witness_OpenArithmeticRuns :
    pcOf ({ calm with cw := 0x017F } : State).cw = 1#2 ∧ precheck .add (calm.st 0) (calm.st 1) = false ∧
      ((start 0x037F [⟨0x3FFF, 1⟩, one] []).st 0).isUnsupported = true ∧
      ((start 0x037F [one, ⟨0x7FFF, 0⟩] []).st 1).isUnsupported = true := by decide +kernel

/-- `FXCH` twice, with what ExchangeSwaps asks. -/
theorem witness_ExchangeSwaps : pendingOf calm.cw calm.sw = 0#6 := by decide +kernel

/-- Both settings of FSTENV_MASKS, and the operand sizes. -/
theorem witness_EnvironmentWords :
    calm.params.fstenvMasks = false ∧
      ({ calm with params := { calm.params with fstenvMasks := true }, opsize32 := false } : State).guards = [] ∧
      isEnvWordByte true 6 = false ∧ isEnvWordByte false 6 = false := by decide +kernel

/-- Tags that agree with the values. -/
theorem witness_SaveRestoreRoundTrip :
    calm.guards = [] ∧ calm.params.fsaveReinit = false ∧ calm.tagsAgree ∧
      ∃ t, exec (.fsave operand) calm = .next t ∧
        ∃ u, exec (.frstor operand) { State.reset with mem := t.mem } = .next u :=
  ⟨rfl, rfl, by unfold State.tagsAgree; decide +kernel, _, rfl, _, rfl⟩

/-- Tags that do not: every register is called ZERO. -/
theorem witness_SaveRestoreRoundTrip_tags :
    ¬ ({ calm with tw := 0x5555 } : State).tagsAgree ∧
      ∃ t, exec (.fsave operand) { calm with tw := 0x5555 } = .next t ∧
        ∃ u, exec (.frstor operand) { State.reset with mem := t.mem } = .next u :=
  ⟨by unfold State.tagsAgree; decide +kernel, _, rfl, _, rfl⟩

theorem witness_SaveRestoreRoundTrip_env :
    ∃ t, exec (.fstenv operand) calm = .next t ∧
      ∃ u, exec (.fldenv operand) { State.reset with mem := t.mem } = .next u := ⟨_, rfl, _, rfl⟩

/-- Both settings of FSAVE_REINIT. -/
theorem witness_SaveStoresImage :
    calm.guards = [] ∧ calm.params.fsaveReinit = false ∧
      ({ calm with params := { calm.params with fsaveReinit := true } } : State).params.fsaveReinit = true :=
  ⟨rfl, rfl, rfl⟩

/-- Both outcomes of the funnel of `FRNDINT`, the cycle report lost in one of them. -/
theorem witness_CommandsMatchHandlers :
    pendingOf (portStep .frndint calm).cw (portStep .frndint calm).sw = 0#6 ∧
      pendingOf (portStep .frndint { alarmed with trapReturns := false }).cw
        (portStep .frndint { alarmed with trapReturns := false }).sw ≠ 0#6 ∧
      alarmed.honorsMf = true := by decide +kernel

/-- Both outcomes of the command `fistp`. -/
theorem witness_FistpCommandOverridesRounding :
    pendingOf calm.cw (intOut 16 calm).2 = 0#6 ∧ pendingOf alarmed.cw (intOut 16 alarmed).2 ≠ 0#6 := by
  decide +kernel

end Sys2Proof.Tests
end

section
/-! SUPPORT. What every instruction leaves unchanged, said once. `Computed` is what the checks and the computation of a
handler can do before its funnel; `Frame` is what a handler as a whole can do, under the permits of its instruction. -/

namespace Sys2Proof.Machine

/-! ## The latches of the status word -/

/-- A status word after checks and computation: of SF and the six latches none is cleared, DE is as it was, and of the
bits from ES on only C1 may differ (10_state.md R26, R32). -/
structure Latched (v w : Word) : Prop where
  grows : ∀ n < 7, v.getLsbD n = true → w.getLsbD n = true
  same : ∀ n, n = 1 ∨ 7 ≤ n → n ≠ 9 → w.getLsbD n = v.getLsbD n

theorem Latched.refl (v : Word) : Latched v v := ⟨fun _ _ h => h, fun _ _ _ => rfl⟩

theorem Latched.trans {u v w : Word} (h : Latched u v) (g : Latched v w) : Latched u w :=
  ⟨fun n hn hu => g.grows n hn (h.grows n hn hu), fun n hn h9 => (g.same n hn h9).trans (h.same n hn h9)⟩

/-- A latch other than DE set. -/
theorem latched_putBit (w : Word) (n : Nat) (h : n < 7) (hde : n ≠ 1) : Latched w (putBit w n true) := by
  constructor
  · intro k hk hw
    rw [putBit_getLsbD, hw, ite_self]
  · intro k hk _
    rw [putBit_getLsbD, if_neg (by omega)]

/-- C1 written. -/
theorem latched_putBit_C1 (w : Word) (b : Bool) : Latched w (putBit w bitC1 b) := by
  constructor
  · intro k hk hw
    rwa [putBit_getLsbD, if_neg fun h => absurd (h.1 : k = 9) (by omega)]
  · intro k _ h9
    rw [putBit_getLsbD, if_neg fun h => h9 h.1]

/-! ## Checks and computation -/

/-- `t` is `s` after checks and computation: only latches, C1, kernel flags and the count of free values differ. -/
def Computed (s t : State) : Prop :=
  ∃ sw fx n, Latched s.sw sw ∧ t = { s with sw := sw, fx := fx, free := n }

theorem Computed.refl (s : State) : Computed s s := ⟨s.sw, s.fx, s.free, Latched.refl _, rfl⟩

theorem Computed.trans {s t u : State} (h : Computed s t) (g : Computed t u) : Computed s u := by
  obtain ⟨_, _, _, hl, rfl⟩ := h
  obtain ⟨sw, fx, n, gl, rfl⟩ := g
  exact ⟨sw, fx, n, hl.trans gl, rfl⟩

/-- A choice between two results, by the state that goes with each. -/
theorem Computed.ite {α : Type} {s : State} {c : Prop} [Decidable c] {x y : α} {st : α → State}
    (hx : Computed s (st x)) (hy : Computed s (st y)) : Computed s (st (if c then x else y)) := by
  split
  · exact hx
  · exact hy

theorem computed_latch (s : State) (n : Nat) (h : n < 7) (hde : n ≠ 1) : Computed s (latch n s) :=
  ⟨_, _, _, latched_putBit s.sw n h hde, rfl⟩

theorem computed_latch_IE (s : State) : Computed s (latch bitIE s) := computed_latch s bitIE (by decide) (by decide)

theorem computed_latchIf_IE (b : Bool) (s : State) : Computed s (latchIf b bitIE s) :=
  Computed.ite (st := id) (computed_latch_IE s) (Computed.refl s)

theorem computed_addFx (f : KFlags) (s : State) : Computed s (addFx f s) := ⟨_, _, _, Latched.refl _, rfl⟩

theorem computed_skipFree (s : State) : Computed s (skipFree s) := ⟨_, _, _, Latched.refl _, rfl⟩

theorem computed_addFreeFlags (s : State) : Computed s (addFreeFlags s) := ⟨_, _, _, Latched.refl _, rfl⟩

theorem computed_freeResult (s : State) : Computed s (freeResult s).2 := ⟨_, _, _, Latched.refl _, rfl⟩

theorem latched_stackFault (w : Word) (b : Bool) :
    Latched w (putBit (putBit (putBit w bitSF true) bitIE true) bitC1 b) :=
  ((latched_putBit w bitSF (by decide) (by decide)).trans (latched_putBit _ bitIE (by decide) (by decide))).trans
    (latched_putBit_C1 _ b)

theorem computed_checkOperands (is : List Slot) (s : State) : Computed s (checkOperands is s) :=
  Computed.ite (st := id) ⟨_, _, _, latched_stackFault s.sw false, rfl⟩ (Computed.refl s)

theorem computed_pushCheck (s : State) : Computed s (pushCheck s) :=
  Computed.ite (st := id) ⟨_, _, _, latched_stackFault s.sw true, rfl⟩ (Computed.refl s)

theorem latched_latchIf (b : Bool) (n : Nat) (s : State) (h : n < 7) (hde : n ≠ 1) :
    Latched s.sw (latchIf b n s).sw := by
  cases b
  · exact Latched.refl _
  · exact latched_putBit s.sw n h hde

/-- The kernel flags drained into the latches (40_kernel_and_protocol.md R165). -/
theorem latched_drainFx (s : State) : Latched s.sw (drainFx s).sw :=
  ((((latched_latchIf _ bitIE s (by decide) (by decide)).trans
    (latched_latchIf _ bitZE _ (by decide) (by decide))).trans
    (latched_latchIf _ bitOE _ (by decide) (by decide))).trans
    (latched_latchIf _ bitUE _ (by decide) (by decide))).trans
    (latched_latchIf _ bitPE _ (by decide) (by decide))

theorem latched_latchMask (w : Word) (f : KFlags) : Latched w (w ||| latchMask f) := by
  have h := latched_drainFx { State.reset with sw := w, fx := f }
  rwa [drainFx_mask] at h

/-! ### The encoders (41_codecs.md) -/

theorem computed_encF32 (v : Fx80) (s : State) : Computed s (encF32 v s).2 :=
  .ite ((computed_skipFree s).trans (computed_addFreeFlags _)) (.ite (computed_latch_IE s) (computed_addFx _ s))

theorem computed_encF64 (v : Fx80) (s : State) : Computed s (encF64 v s).2 :=
  .ite ((computed_skipFree s).trans (computed_addFreeFlags _)) (.ite (computed_latch_IE s) (computed_addFx _ s))

theorem computed_encInt (n : Nat) (v : Fx80) (s : State) : Computed s (encInt n v s).2 :=
  .ite ((computed_skipFree s).trans (computed_addFreeFlags _)) (.ite (computed_latch_IE s)
    (.ite ((computed_addFx _ s).trans (computed_latch_IE _)) (computed_addFx _ s)))

theorem computed_bcdImage (v : Fx80) (s : State) : Computed s (bcdImage v s).2 :=
  .ite (computed_freeResult s) (.ite (computed_latch_IE s)
    (.ite ((computed_addFx _ s).trans (computed_latch_IE _)) (computed_addFx _ s)))

theorem computed_storeImage {α : Type} (absent : α) (enc : Fx80 → State → α × State)
    (h : ∀ v t, Computed t (enc v t).2) (s : State) : Computed s (storeImage absent enc s).2 :=
  (computed_checkOperands [0] s).trans (.ite (Computed.refl _) (h _ _))

theorem computed_intImage (n : Nat) (s : State) : Computed s (intImage n s).2 :=
  computed_storeImage _ _ (computed_encInt n) s

/-! ### Arithmetic and compares (43_arithmetic.md, 44_misc_arith.md, 45_compare.md) -/

theorem computed_arithPair (op : ArithOp) (x y : Fx80) (s : State) : Computed s (arithPair op x y s).2 := by
  refine .ite (computed_freeResult s) (.ite (computed_latch_IE s) ?_)
  split
  · exact computed_addFx _ s
  · exact computed_freeResult s

theorem computed_arithResult (k : ArithKind) (a b : Fx80) (s : State) : Computed s (arithResult k a b s).2 :=
  .ite (computed_arithPair _ _ _ s) (computed_arithPair _ _ _ s)

theorem computed_relOf (kind : CmpKind) (a b : Fx80) (s : State) : Computed s (relOf kind a b s).2 :=
  .ite ((computed_latchIf_IE _ s).trans (computed_skipFree _)) (computed_latchIf_IE _ s)

theorem computed_kernelResult (r : Val × KFlags) (s : State) : Computed s (kernelResult r s).2 := computed_addFx _ s

theorem computed_invalidNow (s : State) : Computed s (invalidNow s).2 := computed_latch_IE s

theorem computed_sqrtOf (a : Fx80) (s : State) : Computed s (sqrtOf a s).2 :=
  .ite (computed_freeResult s) (.ite (computed_invalidNow s) (.ite (computed_invalidNow s)
    (.ite (computed_invalidNow s) (computed_kernelResult _ s))))

theorem computed_rndintOf (a : Fx80) (s : State) : Computed s (rndintOf a s).2 :=
  .ite (computed_freeResult s) (.ite (computed_invalidNow s) (computed_addFx _ s))

theorem computed_scaleOf (a b : Fx80) (s : State) : Computed s (scaleOf a b s).2 := by
  refine .ite (computed_freeResult s) (.ite (computed_invalidNow s) (.ite (.refl s)
    (.ite (.ite (computed_invalidNow s) (.refl s)) (.ite (.ite (computed_invalidNow s) (.refl s)) ?_))))
  split
  · exact computed_kernelResult _ s
  · exact .refl s

theorem computed_pairFree (s : State) : Computed s (PairResult.free s).state :=
  (computed_freeResult s).trans (computed_freeResult _)

theorem computed_extractOf (a : Fx80) (s : State) : Computed s (extractOf a s).state :=
  .ite (computed_pairFree s) (.ite (computed_latch_IE s) (.ite (.refl s) (.ite (.refl s)
    (.ite (computed_latch s bitZE (by decide) (by decide)) (.refl s)))))

theorem computed_premOf (a b : Fx80) (s : State) : Computed s (premOf a b s).2 := by
  refine .ite ((computed_freeResult s).trans (computed_skipFree _)) (.ite (computed_latch_IE s) (.ite (.refl s)
    (.ite (computed_latch_IE s) (.ite (.refl s) ?_))))
  split <;> exact .refl s

theorem computed_prem1Of (a b : Fx80) (s : State) : Computed s (prem1Of a b s).2 :=
  .ite (computed_freeResult s) (.ite (computed_invalidNow s) (computed_kernelResult _ s))

/-! ### The transcendental functions (46_transcendental.md) -/

theorem computed_toD (v : Fx80) (s : State) : Computed s (toD v s).2 := computed_addFx _ s

theorem computed_fromD (w : BitVec 64) (s : State) : Computed s (fromD w s).2 :=
  .ite (computed_latch_IE s) (.refl s)

theorem computed_transOne (f : BitVec 64 → BitVec 64) (a : Fx80) (s : State) : Computed s (transOne f a s).2 :=
  .ite (computed_freeResult s) (.ite (computed_invalidNow s) (.ite (.refl s)
    ((computed_toD a s).trans (computed_fromD _ _))))

theorem computed_transTwo (domain : Fx80 → Bool) (f : BitVec 64 → BitVec 64 → BitVec 64) (a b : Fx80) (s : State) :
    Computed s (transTwo domain f a b s).2 :=
  .ite (computed_freeResult s) (.ite (computed_invalidNow s) (.ite (.refl s) (.ite (computed_invalidNow s)
    (((computed_toD a s).trans (computed_toD b _)).trans (computed_fromD _ _)))))

theorem computed_tanOf (a : Fx80) (s : State) : Computed s (tanOf a s).state :=
  .ite (computed_pairFree s) (.ite (computed_latch_IE s) (.ite (.refl s)
    ((computed_toD a s).trans (computed_fromD _ _))))

theorem computed_sincosOf (a : Fx80) (s : State) : Computed s (sincosOf a s).state :=
  .ite (computed_pairFree s) (.ite (computed_latch_IE s) (.ite (.refl s)
    (((computed_toD a s).trans (computed_fromD _ _)).trans (computed_fromD _ _))))

end Sys2Proof.Machine
end

section
/-! SUPPORT. What a handler as a whole may change, as a relation of the state before and the state after that composes
along the parts of the handler. -/

namespace Sys2Proof.Machine

/-! ## Permits -/

/-- What a handler may change beyond the register stack, the latches, the condition codes and the outputs of a call. -/
structure Permit where
  /-- The host flags. -/
  flags : Bool := false
  /-- `AX`. -/
  ax : Bool := false
  /-- The value a command returns. -/
  port : Bool := false
  /-- The control word, and the rounding mode with it. -/
  cw : Bool := false
  /-- The pointer registers. -/
  pointers : Bool := false
  /-- Latches may be cleared. -/
  clears : Bool := false
  /-- The status word is loaded, with DE and BUSY. -/
  loadsSw : Bool := false
  /-- The tag word is loaded, whatever the values say. -/
  loadsTw : Bool := false
  /-- The bytes of memory that may be stored: an address and a number of bytes. -/
  stores : Option (Addr × Nat) := none

/-- Memory differs at most in the permitted bytes, and stays canonical. -/
def MemFrame (stores : Option (Addr × Nat)) (mem mem' : Memory) : Prop :=
  match stores with
  | none => mem' = mem
  | some (a, n) => (mem.wf = true → mem'.wf = true) ∧ ∀ c, inBytes a n c = false → mem'.read c = mem.read c

theorem MemFrame.refl (st : Option (Addr × Nat)) (mem : Memory) : MemFrame st mem mem := by
  cases st
  · exact rfl
  · exact ⟨id, fun _ _ => rfl⟩

theorem MemFrame.trans {st : Option (Addr × Nat)} {a b c : Memory} (h : MemFrame st a b) (g : MemFrame st b c) :
    MemFrame st a c := by
  cases st
  · exact Eq.trans g h
  · exact ⟨g.1 ∘ h.1, fun x hx => (g.2 x hx).trans (h.2 x hx)⟩

theorem MemFrame.wf {st : Option (Addr × Nat)} {a b : Memory} (h : MemFrame st a b) (ha : a.wf = true) :
    b.wf = true := by
  cases st
  · exact (show b = a from h) ▸ ha
  · exact h.1 ha

/-- The host's side that no handler changes: the inputs, the guards, the parameters, the sequence of calls. -/
def State.hostSide (s : State) : (Bool × Bool × Bool × Bool) × List Guard × Params × List HostCall × Nat :=
  ((s.honorsMf, s.prot, s.opsize32, s.trapReturns), s.guards, s.params, s.stream, s.pos)

/-- The pointer registers (10_state.md R38). -/
def State.pointers (s : State) : BitVec 32 × BitVec 32 × BitVec 16 := (s.fip, s.fdp, s.fop)

/-- The host flags (10_state.md R31). -/
def State.hostFlags (s : State) : Bool × Bool × Bool := (s.zf, s.pf, s.cf)

/-- RM is what CW.RC says (10_state.md R42). -/
def State.rmAgrees (s : State) : Prop := s.rm = rcTable (rcOf s.cw)

/-- `t` is `s` after a handler, or a part of one, with the permits `p`. The defaults of the fields prove what a record
update does not touch. -/
structure Frame (p : Permit) (s t : State) : Prop where
  host : t.hostSide = s.hostSide := by rfl
  port : p.port = false → t.portOut = s.portOut := by exact fun _ => rfl
  ax : p.ax = false → t.ax = s.ax := by exact fun _ => rfl
  flags : p.flags = false → t.hostFlags = s.hostFlags := by exact fun _ => rfl
  pointers : p.pointers = false → t.pointers = s.pointers := by exact fun _ => rfl
  cw : p.cw = false → t.cw = s.cw := by exact fun _ => rfl
  rm : s.rmAgrees → t.rmAgrees := by exact fun h => h
  fx : s.fx = KFlags.empty → t.fx = KFlags.empty := by exact fun h => h
  sticky : p.clears = false → ∀ n < 7, s.sw.getLsbD n = true → t.sw.getLsbD n = true := by exact fun _ _ _ h => h
  quiet : p.loadsSw = false → ∀ n, n = 1 ∨ n = 15 → s.sw.getLsbD n = false → t.sw.getLsbD n = false := by
    exact fun _ _ _ h => h
  tags : p.loadsTw = false → s.tagsAgree → t.tagsAgree := by exact fun _ h => h
  mem : MemFrame p.stores s.mem t.mem := by exact MemFrame.refl _ _

variable {p : Permit} {s t u : State}

theorem Frame.refl (p : Permit) (s : State) : Frame p s s := {}

theorem Frame.trans (h : Frame p s t) (g : Frame p t u) : Frame p s u where
  host := g.host.trans h.host
  port hp := (g.port hp).trans (h.port hp)
  ax hp := (g.ax hp).trans (h.ax hp)
  flags hp := (g.flags hp).trans (h.flags hp)
  pointers hp := (g.pointers hp).trans (h.pointers hp)
  cw hp := (g.cw hp).trans (h.cw hp)
  rm := g.rm ∘ h.rm
  fx := g.fx ∘ h.fx
  sticky hp n hn := g.sticky hp n hn ∘ h.sticky hp n hn
  quiet hp n hn := g.quiet hp n hn ∘ h.quiet hp n hn
  tags hp := g.tags hp ∘ h.tags hp
  mem := h.mem.trans g.mem

theorem Frame.params (h : Frame p s t) : t.params = s.params := congrArg (·.2.2.1) h.host

theorem Frame.opsize32 (h : Frame p s t) : t.opsize32 = s.opsize32 := congrArg (·.1.2.2.1) h.host

/-- Every frame keeps the invariant, whatever it permits. -/
theorem Frame.keepsInv (h : Frame p s t) (hs : s.Inv) : t.Inv :=
  ⟨h.mem.wf hs.1, h.fx hs.2.1, h.rm hs.2.2⟩

/-- A choice between two ways on. -/
theorem Frame.ite {α : Type} {c : Prop} [Decidable c] {x y : α} {st : α → State}
    (hx : c → Frame p s (st x)) (hy : ¬ c → Frame p s (st y)) : Frame p s (st (if c then x else y)) := by
  split
  · next h => exact hx h
  · next h => exact hy h

/-! ## The status word -/

/-- A status word after a handler that loads none: no latch cleared, DE and BUSY not set. -/
structure SwKept (v w : Word) : Prop where
  sticky : ∀ n < 7, v.getLsbD n = true → w.getLsbD n = true
  quiet : ∀ n, n = 1 ∨ n = 15 → v.getLsbD n = false → w.getLsbD n = false

theorem SwKept.trans {u v w : Word} (h : SwKept u v) (g : SwKept v w) : SwKept u w :=
  ⟨fun n hn => g.sticky n hn ∘ h.sticky n hn, fun n hn => g.quiet n hn ∘ h.quiet n hn⟩

theorem Latched.kept {v w : Word} (h : Latched v w) : SwKept v w :=
  ⟨h.grows, fun n hn hv => (h.same n (by omega) (by omega)).trans hv⟩

/-- A bit above the latches written, other than BUSY. -/
theorem swKept_putBit (w : Word) (n : Nat) (b : Bool) (h : 7 ≤ n) (hb : n ≠ 15) : SwKept w (putBit w n b) := by
  constructor
  · intro k hk hw
    rwa [putBit_getLsbD, if_neg (by omega)]
  · intro k hk hw
    rwa [putBit_getLsbD, if_neg (by omega)]

theorem swKept_putTop (w : Word) (t : Slot) : SwKept w (putTop w t) := by
  constructor
  · intro k hk hw
    rwa [putTop_getLsbD w t k (by omega)]
  · intro k hk hw
    rwa [putTop_getLsbD w t k (by omega)]

theorem swKept_putCodes (c : Codes) (w : Word) : SwKept w (putCodes c w) :=
  ((swKept_putBit w bitC3 _ (by decide) (by decide)).trans (swKept_putBit _ bitC2 _ (by decide) (by decide))).trans
    (swKept_putBit _ bitC0 _ (by decide) (by decide))

theorem swKept_putCodes4 (c : BitVec 4) (w : Word) : SwKept w (putCodes4 c w) :=
  (((swKept_putBit w bitC0 _ (by decide) (by decide)).trans (swKept_putBit _ bitC1 _ (by decide) (by decide))).trans
    (swKept_putBit _ bitC2 _ (by decide) (by decide))).trans (swKept_putBit _ bitC3 _ (by decide) (by decide))

theorem swKept_putQuotient (q : Nat) (w : Word) : SwKept w (putQuotient q w) :=
  (((swKept_putBit w bitC1 _ (by decide) (by decide)).trans (swKept_putBit _ bitC3 _ (by decide) (by decide))).trans
    (swKept_putBit _ bitC0 _ (by decide) (by decide))).trans (swKept_putBit _ bitC2 _ (by decide) (by decide))

/-- A state that differs in SW and in the outputs of a call, with FX empty. -/
theorem Frame.status (p : Permit) {s : State} {sw : Word} (h : SwKept s.sw sw) (n : Nat) (mf : Bool) :
    Frame p s { s with sw := sw, fx := KFlags.empty, free := n, mfRequest := mf } where
  fx _ := rfl
  sticky _ := h.sticky
  quiet _ := h.quiet

/-- A state that differs in SW. -/
theorem Frame.sw (p : Permit) {s : State} {sw : Word} (h : SwKept s.sw sw) : Frame p s { s with sw := sw } where
  sticky _ := h.sticky
  quiet _ := h.quiet

/-! ## The register stack -/

/-- The tag of a slot is EMPTY or that of its value (10_state.md R24). -/
def State.agreesAt (s : State) (q : Slot) : Prop := tagOfSlot s.tw q = tagEmpty ∨ tagOfSlot s.tw q = tagOf (s.reg q)

/-- A slot written. -/
theorem setSlot_agreesAt (q r : Slot) (v : Fx80) (t : BitVec 2) (s : State) :
    (setSlot q v t s).agreesAt r ↔ if r = q then t = tagEmpty ∨ t = tagOf v else s.agreesAt r := by
  unfold State.agreesAt
  rw [setSlot_tag, setSlot_reg]
  split <;> rfl

theorem setSlot_tagsAgree {q : Slot} {v : Fx80} {t : BitVec 2} {s : State} (ht : t = tagEmpty ∨ t = tagOf v)
    (hs : s.tagsAgree) : (setSlot q v t s).tagsAgree := by
  intro r
  refine (setSlot_agreesAt q r v t s).mpr ?_
  split
  · exact ht
  · exact hs r

theorem frame_setSlot (q : Slot) (v : Fx80) (t : BitVec 2) (s : State) (ht : t = tagEmpty ∨ t = tagOf v) :
    Frame p s (setSlot q v t s) where
  tags _ := setSlot_tagsAgree ht

theorem frame_writeStack (i : Slot) (v : Fx80) (s : State) : Frame p s (writeStack i v s) :=
  frame_setSlot _ v _ s (.inr rfl)

/-- A slot freed. -/
theorem frame_freeSlot (q : Slot) (s : State) : Frame p s { s with tw := putTag s.tw q tagEmpty } where
  tags _ hs r := by
    simp only [tagOfSlot_putTag]
    split
    · exact .inl rfl
    · exact hs r

theorem frame_setTop (t : Slot) (s : State) : Frame p s (setTop t s) := .sw p (swKept_putTop _ _)

theorem frame_pushCommit (v : Fx80) (s : State) : Frame p s (pushCommit v (tagOf v) s) :=
  (frame_setTop _ s).trans (frame_setSlot _ v _ _ (.inr rfl))

theorem frame_popMove (s : State) : Frame p s (popMove s) := (frame_freeSlot _ s).trans (frame_setTop _ _)

theorem frame_setStackUnderflow (s : State) : Frame p s (setStackUnderflow s) :=
  .sw p (latched_stackFault s.sw false).kept

theorem frame_pop (s : State) : Frame p s (pop s) :=
  .ite (st := id) (fun _ => .ite (st := id) (fun _ => (frame_setStackUnderflow s).trans (frame_popMove _))
    (fun _ => frame_setStackUnderflow s)) (fun _ => frame_popMove s)

theorem frame_popIf (b : Bool) (s : State) : Frame p s (popIf b s) :=
  .ite (st := id) (fun _ => frame_pop s) (fun _ => .refl p s)

theorem frame_popTimes (n : Nat) (s : State) : Frame p s (popTimes n s) := by
  induction n generalizing s with
  | zero => exact .refl p s
  | succ n ih => exact (frame_pop s).trans (ih _)

/-! ## The funnel -/

theorem afterRequest_state (s : State) : (afterRequest s).state = s := by
  unfold afterRequest
  split <;> rfl

/-- ES cleared. -/
theorem swKept_clearES (w : Word) : SwKept w (w &&& 0xFF7F#16) := swKept_putBit w bitES false (by decide) (by decide)

/-- ES set. -/
theorem swKept_setES (w : Word) : SwKept w (w ||| 0x0080#16) := swKept_putBit w bitES true (by decide) (by decide)

/-- A funneled handler: its computation, then the funnel, then what its commit may do with the registers and tags as
they were (40_kernel_and_protocol.md R165, R172). -/
theorem frame_funnel {c : State → Ended} (h : Computed s u)
    (hc : ∀ v, v.regs = s.regs → v.tw = s.tw → Frame p v (c v).state) : Frame p s (funnel c u).state := by
  obtain ⟨sw, fx, n, hl, rfl⟩ := h
  have hd : SwKept s.sw (sw ||| latchMask fx) := (hl.trans (latched_latchMask sw fx)).kept
  rw [funnel_spec]
  split
  · exact (Frame.status p (hd.trans (swKept_clearES _)) n s.mfRequest).trans (hc _ rfl rfl)
  · rw [afterRequest_state]
    exact .status p (hd.trans (swKept_setES _)) n (s.mfRequest || s.honorsMf)

/-! ## The host's side of a handler -/

/-- A host-level fault leaves its record (20_memory.md R79). -/
theorem frame_hostFaulted (acc : Access) (a : Addr) (s : State) : Frame p s (hostFaulted acc a s).state := {}

theorem frame_andThen {e : Ended} {k : State → Ended} (he : Frame p s e.state)
    (hk : ∀ t, Frame p s t → Frame p t (k t).state) : Frame p s (e.andThen k).state := by
  cases e with
  | done t => exact he.trans (hk t he)
  | abort t => exact he

theorem frame_getEa {rw : Bool} {m : MemOperand} {k : Addr → Ended} (hk : Frame p s (k m.ea).state) :
    Frame p s (getEa rw m s k).state :=
  .ite (fun _ => frame_hostFaulted _ _ s) (fun _ => hk)

theorem frame_hostRead {n : Nat} {a : Addr} {k : Nat → Ended} (hk : ∀ w, Frame p s (k w).state) :
    Frame p s (hostRead n a s k).state :=
  .ite (fun _ => frame_hostFaulted _ _ s) (fun _ => hk _)

theorem frame_hostRead80 {a : Addr} {k : Fx80 → Ended} (hk : ∀ v, Frame p s (k v).state) :
    Frame p s (hostRead80 a s k).state :=
  frame_hostRead fun _ => frame_hostRead fun _ => hk _

theorem frame_memWord {n : Nat} {m : MemOperand} {k : Nat → Ended} (hk : ∀ w, Frame p s (k w).state) :
    Frame p s (memWord n m s k).state :=
  frame_getEa (frame_hostRead hk)

theorem frame_memSource {f : MemSrc} {m : MemOperand} {k : Fx80 → Bool → State → Ended}
    (hk : ∀ v b t, Computed s t → Frame p s (k v b t).state) : Frame p s (memSource f m s k).state :=
  frame_memWord fun _ => hk _ _ _ (computed_latchIf_IE _ s)

theorem frame_memSource80 {m : MemOperand} {k : Fx80 → Ended} (hk : ∀ v, Frame p s (k v).state) :
    Frame p s (memSource80 m s k).state :=
  frame_getEa (frame_hostRead80 hk)

theorem frame_memDest {m : MemOperand} {k : Addr → Ended} (hk : Frame p s (k m.ea).state) :
    Frame p s (memDest m s k).state := frame_getEa hk

/-- Bytes at an offset, inside the bytes from a base. -/
theorem inBytes_offset {base c : Addr} {off k n : Nat} (h : inBytes (base + BitVec.ofNat 32 off) k c = true)
    (hn : off + k ≤ n) : inBytes base n c = true := by
  have e : c - base = c - (base + BitVec.ofNat 32 off) + BitVec.ofNat 32 off := by
    bv_omega
  simp only [inBytes, decide_eq_true_eq] at h ⊢
  rw [e, BitVec.toNat_add, BitVec.toNat_ofNat]
  omega

/-- A write inside the permitted bytes. -/
theorem frame_hostWrite {base : Addr} {off k n : Nat} (hp : p.stores = some (base, n)) (hn : off + k ≤ n)
    (hk : k < 2 ^ 32) (v : Nat) (s : State) : Frame p s (hostWrite k (base + BitVec.ofNat 32 off) v s).state := by
  refine .ite (fun _ => frame_hostFaulted _ _ s) (fun _ => { mem := ?_ })
  rw [hp]
  refine ⟨Memory.wf_writeLE _ _ _ _, fun c hc => Memory.read_writeLE_outside k _ _ c v hk ?_⟩
  refine Bool.eq_false_iff.mpr fun hin => ?_
  rw [inBytes_offset hin hn] at hc
  cases hc

/-- A write of 80 bits inside the permitted bytes. -/
theorem frame_hostWrite80 {base : Addr} {off n : Nat} (hp : p.stores = some (base, n)) (hn : off + 10 ≤ n) (v : Fx80)
    (s : State) : Frame p s (hostWrite80 (base + BitVec.ofNat 32 off) v s).state := by
  refine frame_andThen (frame_hostWrite hp (by omega) (by decide) _ s) fun t _ => ?_
  have e : base + BitVec.ofNat 32 off + 8 = base + BitVec.ofNat 32 (off + 8) := by
    rw [BitVec.ofNat_add, BitVec.add_assoc]; rfl
  rw [e]
  exact frame_hostWrite hp (by omega) (by decide) _ t

/-- A write of the whole of the permitted bytes. -/
theorem frame_hostWrite_whole {base : Addr} {n : Nat} (hp : p.stores = some (base, n)) (hn : n < 2 ^ 32) (v : Nat)
    (s : State) : Frame p s (hostWrite n base v s).state := by
  have h := frame_hostWrite (off := 0) hp (by omega) hn v s
  rwa [BitVec.add_zero] at h

end Sys2Proof.Machine
end

section
/-! SUPPORT. The frame of every template of the handlers. -/

namespace Sys2Proof.Machine

variable {p : Permit} {s : State}

/-! ## Loads and stores (42_load_store.md) -/

theorem frame_load {u : State} (v : Fx80) (h : Computed s u) : Frame p s (load v u).state := by
  unfold load
  exact frame_funnel (h.trans (computed_pushCheck u)) fun _ _ _ => frame_pushCommit _ _

theorem frame_loadReal (f : MemSrc) (m : MemOperand) (s : State) : Frame p s (loadReal f m s).state :=
  frame_memWord fun _ => .ite (fun _ => frame_load _ (computed_latch_IE s)) (fun _ => frame_load _ (.refl s))

theorem frame_loadInt (w : IntWidth) (m : MemOperand) (s : State) : Frame p s (loadInt w m s).state :=
  frame_memSource fun v _ _ h => frame_load v h

theorem frame_loadSt (i : Slot) (s : State) : Frame p s (loadSt i s).state :=
  frame_load _ (computed_checkOperands [i] s)

theorem frame_load80 (f : Fx80 → Fx80) (m : MemOperand) (s : State) :
    Frame p s (memSource80 m s fun v => load (f v) s).state :=
  frame_memSource80 fun _ => frame_load _ (.refl s)

/-- A constant load whose tag is that of its constant. -/
theorem frame_loadConst {c : Fx80} {t : BitVec 2} (ht : t = tagOf c) (s : State) :
    Frame p s (loadConst c t s).state := by
  have hr : (if s.full then tagSpecial else t) = tagOf (if s.full then indef else c) := by
    split
    · rfl
    · exact ht
  unfold loadConst
  rw [hr]
  exact frame_funnel (computed_pushCheck s) fun _ _ _ => frame_pushCommit _ _

/-- Both variants of a constant of the ROM have the tag of its lower one. -/
theorem tagOf_romPi (b : Bool) : tagValid = tagOf (romPi.value b) := by cases b <;> decide
theorem tagOf_romL2t (b : Bool) : tagValid = tagOf (romL2t.value b) := by cases b <;> decide
theorem tagOf_romL2e (b : Bool) : tagValid = tagOf (romL2e.value b) := by cases b <;> decide
theorem tagOf_romLg2 (b : Bool) : tagValid = tagOf (romLg2.value b) := by cases b <;> decide
theorem tagOf_romLn2 (b : Bool) : tagValid = tagOf (romLn2.value b) := by cases b <;> decide

theorem frame_storeCommit {ea : Addr} {n : Nat} (hp : p.stores = some (ea, n)) (hn : n < 2 ^ 32) (img : Nat) (b : Bool)
    (s : State) : Frame p s (storeCommit n ea img b s).state :=
  frame_andThen (frame_hostWrite_whole hp hn img s) fun t _ => frame_popIf b t

theorem frame_storeCommit80 {ea : Addr} (hp : p.stores = some (ea, 10)) (img : Fx80) (b : Bool) (s : State) :
    Frame p s (storeCommit80 ea img b s).state := by
  have hw := frame_hostWrite80 (off := 0) hp (by decide) img s
  rw [BitVec.add_zero] at hw
  exact frame_andThen hw fun t _ => frame_popIf b t

theorem frame_storeReal32 {m : MemOperand} (hp : p.stores = some (m.ea, 4)) (b : Bool) (s : State) :
    Frame p s (storeReal32 b m s).state :=
  frame_memDest (frame_funnel (computed_storeImage _ _ computed_encF32 s) fun v _ _ =>
    frame_storeCommit hp (by decide) _ b v)

theorem frame_storeReal64 {m : MemOperand} (hp : p.stores = some (m.ea, 8)) (b : Bool) (s : State) :
    Frame p s (storeReal64 b m s).state :=
  frame_memDest (frame_funnel (computed_storeImage _ _ computed_encF64 s) fun v _ _ =>
    frame_storeCommit hp (by decide) _ b v)

theorem frame_storeReal80 {m : MemOperand} (hp : p.stores = some (m.ea, 10)) (s : State) :
    Frame p s (storeReal80 m s).state :=
  frame_memDest (frame_funnel (computed_storeImage _ _ (fun _ t => .refl t) s) fun v _ _ =>
    frame_storeCommit80 hp _ true v)

theorem frame_storeSt (i : Slot) (b : Bool) (s : State) : Frame p s (storeSt i b s).state := by
  unfold storeSt
  exact frame_funnel (computed_storeImage _ _ (fun _ t => .refl t) s) fun v _ _ =>
    (frame_writeStack i _ v).trans (frame_popIf b _)

theorem frame_storeInt {w : IntWidth} {m : MemOperand} (hp : p.stores = some (m.ea, w.bytes)) (b : Bool) (s : State) :
    Frame p s (storeInt w b m s).state :=
  frame_memDest (frame_funnel (computed_intImage _ s) fun v _ _ =>
    frame_storeCommit hp (by cases w <;> decide) _ b v)

theorem frame_storeBcd {m : MemOperand} (hp : p.stores = some (m.ea, 10)) (s : State) :
    Frame p s (storeBcd m s).state :=
  frame_memDest (frame_funnel (computed_storeImage _ _ computed_bcdImage s) fun v _ _ =>
    frame_storeCommit80 hp _ true v)

/-! ## Arithmetic (43_arithmetic.md, 44_misc_arith.md) -/

theorem frame_arithMem (k : ArithKind) (f : MemSrc) (m : MemOperand) (s : State) :
    Frame p s (arithMem k f m s).state := by
  unfold arithMem
  exact frame_memSource fun _ _ t h =>
    frame_funnel (h.trans ((computed_checkOperands [0] t).trans (.ite (.refl _) (computed_arithResult _ _ _ _))))
      fun v _ _ => frame_writeStack 0 _ v

theorem frame_arithReg (k : ArithKind) (dst src : Slot) (b : Bool) (s : State) :
    Frame p s (arithReg k dst src b s).state := by
  unfold arithReg
  exact frame_funnel ((computed_checkOperands [dst, src] s).trans (.ite (.refl _) (computed_arithResult _ _ _ _)))
    fun v _ _ => (frame_writeStack dst _ v).trans (frame_popIf b _)

theorem frame_unary {f : Fx80 → State → Fx80 × State} (hf : ∀ a t, Computed t (f a t).2) (s : State) :
    Frame p s (unary f s).state := by
  unfold unary
  exact frame_funnel ((computed_checkOperands [0] s).trans (.ite (.refl _) (hf _ _)))
    fun v _ _ => frame_writeStack 0 _ v

theorem frame_scaleTop (s : State) : Frame p s (scaleTop s).state := by
  unfold scaleTop
  exact frame_funnel ((computed_checkOperands [0, 1] s).trans (.ite (.refl _) (computed_scaleOf _ _ _)))
    fun v _ _ => frame_writeStack 0 _ v

theorem frame_writeRemCodes (c : RemCodes) (s : State) : Frame p s (writeRemCodes c s) := by
  cases c with
  | none => exact .refl p s
  | complete q => exact .sw p (swKept_putQuotient q _)
  | incomplete => exact .sw p (swKept_putBit _ bitC2 true (by decide) (by decide))
  | free c => exact .sw p (swKept_putCodes4 c _)

theorem frame_premTop (s : State) : Frame p s (premTop s).state := by
  unfold premTop
  exact frame_funnel ((computed_checkOperands [0, 1] s).trans (.ite (.refl _) (computed_premOf _ _ _)))
    fun v _ _ => (frame_writeStack 0 _ v).trans (frame_writeRemCodes _ _)

theorem frame_skipFree (s : State) : Frame p s (skipFree s) := {}

theorem frame_prem1Top (s : State) : Frame p s (prem1Top s).state := by
  unfold prem1Top
  exact .ite (fun _ => frame_funnel (computed_checkOperands [0, 1] s) fun v _ _ => frame_writeStack 0 _ v)
    (fun _ => frame_funnel ((computed_checkOperands [0, 1] s).trans (computed_prem1Of _ _ _))
      fun v _ _ => ((frame_writeStack 0 _ v).trans (frame_writeRemCodes _ _)).trans (frame_skipFree _))

/-- The end of an instruction with two results, and what it does after writing them. -/
theorem frame_pairCommit {after : State → State} {r : PairResult} (ha : ∀ u, Frame p u (after u))
    (h : Computed s r.state) : Frame p s (pairCommit after r).state := by
  unfold pairCommit
  exact frame_funnel (h.trans (computed_pushCheck _)) fun v _ _ =>
    ((frame_writeStack 0 _ v).trans (frame_pushCommit _ _)).trans (ha _)

theorem frame_pairTop {after : State → State} {f : Fx80 → State → PairResult} (ha : ∀ u, Frame p u (after u))
    (hf : ∀ a t, Computed t (f a t).state) (s : State) : Frame p s (pairTop after f s).state :=
  frame_pairCommit ha ((computed_checkOperands [0] s).trans (.ite (st := PairResult.state) (.refl _) (hf _ _)))

/-! ## Transcendental instructions (46_transcendental.md) -/

theorem frame_clearC2 (s : State) : Frame p s (clearC2 s) :=
  .sw p (swKept_putBit _ bitC2 false (by decide) (by decide))

theorem frame_transInPlace {f : BitVec 64 → BitVec 64} {after : State → State} (ha : ∀ u, Frame p u (after u))
    (s : State) : Frame p s (transInPlace f after s).state := by
  unfold transInPlace
  exact frame_funnel ((computed_checkOperands [0] s).trans (.ite (.refl _) (computed_transOne _ _ _)))
    fun v _ _ => (frame_writeStack 0 _ v).trans (ha _)

theorem frame_transPop (domain : Fx80 → Bool) (f : BitVec 64 → BitVec 64 → BitVec 64) (s : State) :
    Frame p s (transPop domain f s).state := by
  unfold transPop
  exact frame_funnel ((computed_checkOperands [0, 1] s).trans (.ite (.refl _) (computed_transTwo _ _ _ _ _)))
    fun v _ _ => (frame_writeStack 1 _ v).trans (frame_pop _)

/-! ## Compares and conditional moves (45_compare.md) -/

/-- A result written to the condition codes, or to the host flags where they are permitted. -/
theorem frame_cmpWrite {d : CmpDest} (hd : d = .flags → p.flags = true) (r : Rel) (s : State) :
    Frame p s (d.write r s) := by
  cases d with
  | codes => exact .sw p ((swKept_putCodes _ _).trans (swKept_putBit _ bitC1 false (by decide) (by decide)))
  | flags => exact { flags := fun h => absurd h (by simp [hd rfl]) }

theorem frame_cmpCommit {d : CmpDest} (hd : d = .flags → p.flags = true) (n : Nat) {r : Rel × State}
    (h : Computed s r.2) : Frame p s (cmpCommit d n r).state := by
  unfold cmpCommit
  exact frame_funnel h fun v _ _ => (frame_cmpWrite hd _ v).trans (frame_popTimes n _)

theorem frame_cmpReg {d : CmpDest} (hd : d = .flags → p.flags = true) (kind : CmpKind) (n : Nat) (i : Slot)
    (s : State) : Frame p s (cmpReg kind d n i s).state :=
  frame_cmpCommit hd n ((computed_checkOperands [0, i] s).trans (.ite (.refl _) (computed_relOf _ _ _ _)))

theorem frame_cmpMem (n : Nat) (f : MemSrc) (m : MemOperand) (s : State) : Frame p s (cmpMem n f m s).state :=
  frame_memSource fun _ _ t h => frame_cmpCommit (d := .codes) nofun n
    (h.trans ((computed_checkOperands [0] t).trans (.ite (.refl _) (computed_relOf _ _ _ _))))

theorem frame_testTop (s : State) : Frame p s (testTop s).state :=
  frame_cmpCommit (d := .codes) nofun 0 ((computed_checkOperands [0] s).trans (.ite (.refl _) (computed_relOf _ _ _ _)))

theorem frame_examTop (s : State) : Frame p s (examTop s).state :=
  .sw p ((swKept_putCodes _ _).trans (swKept_putBit _ bitC1 _ (by decide) (by decide)))

theorem frame_moveIf (c : Cond) (i : Slot) (s : State) : Frame p s (moveIf c i s).state := by
  unfold moveIf
  exact .ite (fun _ => frame_funnel (computed_checkOperands [i] s) fun v _ _ => frame_writeStack 0 _ v)
    (fun _ => .refl p s)

/-! ## Control instructions (47_control.md) -/

/-- CW written, and RM with it (10_state.md R37). -/
theorem frame_writeCw (hp : p.cw = true) (v : Word) (s : State) : Frame p s (writeCw v s) where
  cw h := absurd h (by simp [hp])
  rm _ := rfl

theorem frame_loadCw (hp : p.cw = true) (m : MemOperand) (s : State) : Frame p s (loadCw m s).state :=
  frame_memWord fun _ => frame_writeCw hp _ s

theorem frame_storeWord {m : MemOperand} (hp : p.stores = some (m.ea, 2)) (w : Word) (s : State) :
    Frame p s (storeWord w m s).state :=
  frame_memDest (frame_hostWrite_whole hp (by decide) _ s)

theorem frame_storeAx (hp : p.ax = true) (v : Word) (s : State) : Frame p s { s with ax := v } where
  ax h := absurd h (by simp [hp])

theorem frame_clearExceptions (hp : p.clears = true) (s : State) : Frame p s (clearExceptions s) where
  sticky h := absurd h (by simp [hp])
  quiet _ n _ hs := by simp [clearExceptions, hs]

/-- Every slot is EMPTY in the tag word of `FINIT`. -/
theorem tagOfSlot_allEmpty (q : Slot) : tagOfSlot 0xFFFF#16 q = tagEmpty := by revert q; decide

theorem initFpu_rmAgrees (s : State) : (initFpu s).rmAgrees :=
  show Rm.rn = rcTable (rcOf 0x037F#16) by decide

theorem frame_initFpu (hcw : p.cw = true) (hcl : p.clears = true) (hpt : p.pointers = true) (s : State) :
    Frame p s (initFpu s) where
  pointers h := absurd h (by simp [hpt])
  cw h := absurd h (by simp [hcw])
  rm _ := initFpu_rmAgrees s
  sticky h := absurd h (by simp [hcl])
  quiet _ n _ _ := BitVec.getLsbD_zero
  tags _ _ q := .inl (tagOfSlot_allEmpty q)

/-- Two states with the same registers and tags agree alike. -/
theorem tagsAgree_congr {v : State} (hr : v.regs = s.regs) (ht : v.tw = s.tw) (h : v.tagsAgree) : s.tagsAgree := by
  intro q
  have hq := h q
  rwa [State.reg, hr, ht] at hq

/-- What `FXCH` moves of ST(i), EMPTY or not, has the tag that goes with it (R430). -/
theorem exchanged_tag (h : s.tagsAgree) (i : Slot) :
    (if s.isEmpty i then tagSpecial else s.tag i) = tagOf (if s.isEmpty i then indef else s.st i) := by
  split
  · rfl
  · next he => exact (h (s.phys i)).resolve_left fun e => he (by simp [State.isEmpty, State.tag, e])

theorem frame_exchange (i : Slot) (s : State) : Frame p s (exchange i s).state := by
  unfold exchange
  exact frame_funnel (computed_checkOperands [0, i] s) fun _ hr ht =>
    { tags := fun _ hv =>
        have hs : s.tagsAgree := tagsAgree_congr hr ht hv
        setSlot_tagsAgree (.inr (exchanged_tag hs 0)) (setSlot_tagsAgree (.inr (exchanged_tag hs i)) hv) }

/-! ## Environment and state (48_environment.md) -/

theorem frame_storeEnv {ea : Addr} {n : Nat} (hp : p.stores = some (ea, n)) (hn : s.envSize ≤ n) :
    Frame p s (storeEnv ea s).state := by
  have hsw : s.envSwOffset = BitVec.ofNat 32 (if s.opsize32 then 4 else 2) := by unfold State.envSwOffset; split <;> rfl
  have htw : s.envTwOffset = BitVec.ofNat 32 (if s.opsize32 then 8 else 4) := by unfold State.envTwOffset; split <;> rfl
  unfold State.envSize at hn
  unfold storeEnv
  rw [hsw, htw]
  refine frame_andThen (frame_andThen (frame_hostWrite (off := 0) hp ?_ (by decide) _ s) fun t _ =>
    frame_hostWrite hp ?_ (by decide) _ t) fun t _ => frame_hostWrite hp ?_ (by decide) _ t
  all_goals split_ifs at * <;> omega

theorem frame_saveRegs {ea : Addr} {n : Nat} (hp : p.stores = some (ea, n)) (is : List Slot) {s : State}
    (hn : s.envSize + 80 ≤ n) : Frame p s (saveRegs ea is s).state := by
  induction is generalizing s with
  | nil => exact .refl p s
  | cons i rest ih =>
    refine frame_andThen (frame_hostWrite80 hp (by omega) _ s) fun t ht => ih ?_
    rwa [State.envSize, ht.opsize32]

/-- The re-initialisation of `FSAVE` is permitted where the parameter asks for it (R455). -/
theorem frame_saveState {ea : Addr} {n : Nat} (hp : p.stores = some (ea, n)) (hn : s.envSize + 80 ≤ n)
    (hi : s.params.fsaveReinit = true → p.cw = true ∧ p.clears = true ∧ p.pointers = true) :
    Frame p s (saveState ea s).state := by
  have hs : Frame p s ((storeEnv ea s).andThen (saveRegs ea stackIndices)).state :=
    frame_andThen (frame_storeEnv hp (by omega)) fun t ht => frame_saveRegs hp _ (by rwa [State.envSize, ht.opsize32])
  refine frame_andThen hs fun t ht => .ite (st := id) (fun h => ?_) (fun _ => .refl p t)
  rw [ht.params] at h
  obtain ⟨hcw, hcl, hpt⟩ := hi h
  exact frame_initFpu hcw hcl hpt t

theorem frame_maskAll (hp : s.params.fstenvMasks = true → p.cw = true) : Frame p s (maskAll s) :=
  .ite (st := id) (fun h => frame_writeCw (hp h) _ s) (fun _ => .refl p s)

/-- The permits of a handler that loads the environment. -/
def Permit.loadsEnv (p : Permit) : Prop := p.cw = true ∧ p.clears = true ∧ p.loadsSw = true ∧ p.loadsTw = true

theorem frame_loadEnv (hp : p.loadsEnv) (ea : Addr) (s : State) : Frame p s (loadEnv ea s).state := by
  obtain ⟨hcw, hcl, hsw, htw⟩ := hp
  refine frame_hostRead fun c => (frame_writeCw hcw _ s).trans (frame_hostRead fun w => ?_)
  refine Frame.trans (t := { writeCw (BitVec.ofNat 16 c) s with sw := BitVec.ofNat 16 w })
    { sticky := fun h => absurd h (by simp [hcl]), quiet := fun h => absurd h (by simp [hsw]) } ?_
  exact frame_hostRead fun t => { tags := fun h => absurd h (by simp [htw]) }

theorem frame_installReg (i : Slot) (v : Fx80) (s : State) : Frame p s (installReg i v s) := by
  refine frame_setSlot _ v _ s ?_
  split
  · exact .inl rfl
  · exact .inr rfl

theorem frame_restoreRegs (ea : Addr) (is : List Slot) (s : State) : Frame p s (restoreRegs ea is s).state := by
  induction is generalizing s with
  | nil => exact .refl p s
  | cons i rest ih => exact frame_hostRead80 fun v => (frame_installReg i v s).trans (ih _)

theorem frame_restoreState (hp : p.loadsEnv) (ea : Addr) (s : State) : Frame p s (restoreState ea s).state :=
  frame_andThen (frame_loadEnv hp ea s) fun t _ => frame_restoreRegs ea _ t

end Sys2Proof.Machine
end

section
/-! SUPPORT. The frame of every instruction under its permits. -/

namespace Sys2Proof.Machine

/-- What an instruction may change in a state. -/
def permitOf (i : Instr) (s : State) : Permit where
  flags := i matches .fcomi _ | .fcomip _ | .fucomi _ | .fucomip _
  ax := i matches .fstswAx
  cw := match i with
    | .fldcw _ | .fldenv _ | .frstor _ | .finit => true
    | .fstenv _ => s.params.fstenvMasks
    | .fsave _ => s.params.fsaveReinit
    | _ => false
  pointers := match i with
    | .finit => true
    | .fsave _ => s.params.fsaveReinit
    | _ => false
  clears := match i with
    | .fclex | .finit | .fldenv _ | .frstor _ => true
    | .fsave _ => s.params.fsaveReinit
    | _ => false
  loadsSw := i matches .fldenv _ | .frstor _
  loadsTw := i matches .fldenv _ | .frstor _
  stores := (i.stored s.opsize32).map fun x => (x.1.ea, x.2)

/-- A handler in its frame ends in a next state in the same frame: the cycle report is the host's. -/
theorem frame_finish {i : Instr} {s : State} {e : Ended} (h : exec i s = finish i e) (he : Frame p s e.state) :
    ∃ t, exec i s = .next t ∧ Frame p s t := by
  cases e with
  | done t => exact ⟨charged i t, h, he.trans {}⟩
  | abort t => exact ⟨t, h, he⟩

/-- The save area of R454 is the environment and eight images of ten bytes. -/
theorem saveArea_size (s : State) : s.envSize + 80 = if s.opsize32 then 108 else 94 := by
  unfold State.envSize
  split <;> rfl

/-- Every instruction answers a next state, in the frame of its permits. -/
theorem exec_frame (i : Instr) (s : State) : ∃ t, exec i s = .next t ∧ Frame (permitOf i s) s t :=
  match i with
  | .faddM32real _ | .fmulM32real _ | .fsubM32real _ | .fsubrM32real _ | .fdivM32real _ | .fdivrM32real _
  | .fiaddM32int _ | .fimulM32int _ | .fisubM32int _ | .fisubrM32int _ | .fidivM32int _ | .fidivrM32int _
  | .faddM64real _ | .fmulM64real _ | .fsubM64real _ | .fsubrM64real _ | .fdivM64real _ | .fdivrM64real _
  | .fiaddM16int _ | .fimulM16int _ | .fisubM16int _ | .fisubrM16int _ | .fidivM16int _ | .fidivrM16int _ =>
    frame_finish rfl (frame_arithMem _ _ _ s)
  | .faddStSti _ | .fmulStSti _ | .fsubStSti _ | .fsubrStSti _ | .fdivStSti _ | .fdivrStSti _
  | .faddStiSt _ | .fmulStiSt _ | .fsubrStiSt _ | .fsubStiSt _ | .fdivrStiSt _ | .fdivStiSt _
  | .faddp _ | .fmulp _ | .fsubrp _ | .fsubp _ | .fdivrp _ | .fdivp _ =>
    frame_finish rfl (frame_arithReg _ _ _ _ s)
  | .fcomM32real _ | .fcompM32real _ | .fcomM64real _ | .fcompM64real _ | .ficomM16int _ | .ficompM16int _
  | .ficomM32int _ | .ficompM32int _ => frame_finish rfl (frame_cmpMem _ _ _ s)
  | .fcomSti _ | .fcompSti _ | .fcompp | .fucom _ | .fucomp _ | .fucompp =>
    frame_finish rfl (frame_cmpReg (d := .codes) nofun _ _ _ s)
  | .fcomi _ | .fcomip _ | .fucomi _ | .fucomip _ => frame_finish rfl (frame_cmpReg (fun _ => rfl) _ _ _ s)
  | .ftst => frame_finish rfl (frame_testTop s)
  | .fxam => frame_finish rfl (frame_examTop s)
  | .fcmovb _ | .fcmove _ | .fcmovbe _ | .fcmovu _ | .fcmovnb _ | .fcmovne _ | .fcmovnbe _ | .fcmovnu _ =>
    frame_finish rfl (frame_moveIf _ _ s)
  | .fldM32real _ | .fldM64real _ => frame_finish rfl (frame_loadReal _ _ s)
  | .fildM16int _ | .fildM32int _ | .fildM64int _ => frame_finish rfl (frame_loadInt _ _ s)
  | .fldM80real _ => frame_finish rfl (frame_load80 id _ s)
  | .fbld _ => frame_finish rfl (frame_load80 decBcd _ s)
  | .fldSti _ => frame_finish rfl (frame_loadSt _ s)
  | .fld1 => frame_finish rfl (frame_loadConst (by decide) s)
  | .fldz => frame_finish rfl (frame_loadConst (by decide) s)
  | .fldpi => frame_finish rfl (frame_loadConst (tagOf_romPi _) s)
  | .fldl2t => frame_finish rfl (frame_loadConst (tagOf_romL2t _) s)
  | .fldl2e => frame_finish rfl (frame_loadConst (tagOf_romL2e _) s)
  | .fldlg2 => frame_finish rfl (frame_loadConst (tagOf_romLg2 _) s)
  | .fldln2 => frame_finish rfl (frame_loadConst (tagOf_romLn2 _) s)
  | .fstM32real _ | .fstpM32real _ => frame_finish rfl (frame_storeReal32 rfl _ s)
  | .fstM64real _ | .fstpM64real _ => frame_finish rfl (frame_storeReal64 rfl _ s)
  | .fstpM80real _ => frame_finish rfl (frame_storeReal80 rfl s)
  | .fstSti _ | .fstpSti _ => frame_finish rfl (frame_storeSt _ _ s)
  | .fistM16int _ | .fistpM16int _ | .fistM32int _ | .fistpM32int _ | .fistpM64int _ =>
    frame_finish rfl (frame_storeInt rfl _ s)
  | .fbstp _ => frame_finish rfl (frame_storeBcd rfl s)
  | .fchs => frame_finish rfl (frame_unary (fun _ t => .refl t) s)
  | .fabs => frame_finish rfl (frame_unary (fun _ t => .refl t) s)
  | .fsqrt => frame_finish rfl (frame_unary computed_sqrtOf s)
  | .frndint => frame_finish rfl (frame_unary computed_rndintOf s)
  | .fscale => frame_finish rfl (frame_scaleTop s)
  | .fxtract => frame_finish rfl (frame_pairTop (fun u => .refl _ u) computed_extractOf s)
  | .fprem => frame_finish rfl (frame_premTop s)
  | .fprem1 => frame_finish rfl (frame_prem1Top s)
  | .f2xm1 => frame_finish rfl (frame_transInPlace (fun u => .refl _ u) s)
  | .fsin | .fcos => frame_finish rfl (frame_transInPlace frame_clearC2 s)
  | .fyl2x | .fyl2xp1 | .fpatan => frame_finish rfl (frame_transPop _ _ s)
  | .fptan => frame_finish rfl (frame_pairTop frame_clearC2 computed_tanOf s)
  | .fsincos => frame_finish rfl (frame_pairTop frame_clearC2 computed_sincosOf s)
  | .fldcw m => frame_finish rfl (frame_loadCw rfl m s)
  | .fstcw _ | .fstswM16 _ => frame_finish rfl (frame_storeWord rfl _ s)
  | .fstswAx => frame_finish (e := .done { s with ax := s.sw }) rfl (frame_storeAx rfl _ s)
  | .fclex => frame_finish (e := .done (clearExceptions s)) rfl (frame_clearExceptions rfl s)
  | .finit => frame_finish (e := .done (initFpu s)) rfl (frame_initFpu rfl rfl rfl s)
  | .fnop => frame_finish (e := .done s) rfl (.refl _ s)
  | .fincstp | .fdecstp => frame_finish (e := .done (setTop _ s)) rfl (frame_setTop _ s)
  | .ffree i => frame_finish (e := .done { s with tw := putTag s.tw (s.phys i) tagEmpty }) rfl (frame_freeSlot _ s)
  | .fxch _ => frame_finish rfl (frame_exchange _ s)
  | .fstenv _ => frame_finish rfl (frame_memDest (frame_andThen (frame_storeEnv rfl le_rfl) fun _ ht =>
      frame_maskAll fun h => by rwa [ht.params] at h))
  | .fldenv m => frame_finish rfl (frame_getEa (frame_loadEnv ⟨rfl, rfl, rfl, rfl⟩ m.ea s))
  | .fsave _ => frame_finish rfl (frame_memDest (frame_saveState rfl (saveArea_size s).le fun h => ⟨h, h, h⟩))
  | .frstor m => frame_finish rfl (frame_getEa (frame_restoreState ⟨rfl, rfl, rfl, rfl⟩ m.ea s))

/-- The state an instruction answers is in its frame. -/
theorem frame_of_exec {i : Instr} {s t : State} (h : exec i s = .next t) : Frame (permitOf i s) s t := by
  obtain ⟨u, hu, hf⟩ := exec_frame i s
  cases hu.symm.trans h
  exact hf

end Sys2Proof.Machine
end

section
/-! The statements of 10_state.md, each read off the frame of the handlers. -/

namespace Sys2Proof.Machine

/-! ## The invariant of the machine -/

theorem exec_keepsInv {i : Instr} {s t : State} (hs : s.Inv) (h : exec i s = .next t) : t.Inv :=
  (frame_of_exec h).keepsInv hs

/-- A result returned by a command, where its output is permitted. -/
theorem frame_returned {p : Permit} (hp : p.port = true) {n : Nat} (v : BitVec n) (s : State) :
    Frame p s (returned v s) where
  port h := absurd h (by simp [hp])

/-- A part of a handler that runs under an RM of its own, put back afterwards. -/
theorem Frame.keepsInv_ownRm {p : Permit} {s t : State} {rm : Rm} (h : Frame p { s with rm := rm } t)
    (hp : p.cw = false) (hs : s.Inv) : ({ t with rm := s.rm } : State).Inv := by
  obtain ⟨hmem, hfx, hrm⟩ := hs
  have hcw : t.cw = s.cw := h.cw hp
  exact ⟨h.mem.wf hmem, h.fx hfx, hrm.trans (congrArg (fun v => rcTable (rcOf v)) hcw.symm)⟩

/-- `fistp` keeps what its store keeps, and puts RM back (49_host_command_port.md R480). -/
theorem portFistp_keepsInv (w : IntWidth) (rc : BitVec 2) {s : State} (hs : s.Inv) : (portFistp w rc s).Inv :=
  Frame.keepsInv_ownRm (p := { port := true })
    (frame_funnel (computed_intImage w.bits _) fun v _ _ => (frame_returned rfl _ v).trans (frame_pop _)) rfl hs

/-- Every command keeps the invariant (49_host_command_port.md R472 to R480). -/
theorem portStep_keepsInv (c : PortCmd) {s : State} (hs : s.Inv) : (portStep c s).Inv := by
  cases c with
  | fldcw v => exact (frame_writeCw (p := { cw := true }) rfl v s).keepsInv hs
  | wait => exact hs
  | fninit =>
    exact (frame_initFpu (p := { cw := true, clears := true, pointers := true }) rfl rfl rfl s).keepsInv hs
  | fstcw => exact (frame_returned (p := { port := true }) rfl s.cw s).keepsInv hs
  | fstsw => exact (frame_returned (p := { port := true }) rfl s.sw s).keepsInv hs
  | frndint => exact (frame_unary (p := {}) computed_rndintOf s).keepsInv hs
  | fclex => exact (frame_clearExceptions (p := { clears := true }) rfl s).keepsInv hs
  | fsave ea =>
    exact (frame_saveState (p := { cw := true, clears := true, pointers := true, stores := some (ea, s.envSize + 80) })
      rfl le_rfl fun _ => ⟨rfl, rfl, rfl⟩).keepsInv hs
  | frstor ea =>
    exact (frame_restoreState (p := { cw := true, clears := true, loadsSw := true, loadsTw := true })
      ⟨rfl, rfl, rfl, rfl⟩ ea s).keepsInv hs
  | fistp w rc => exact portFistp_keepsInv w rc hs

/-- Every act of the host keeps the invariant: its stores keep memory canonical, `reset()` empties FX. -/
theorem hostStep_keepsInv (e : HostEvent) {s : State} (hs : s.Inv) : (hostStep e s).Inv := by
  cases e with
  | reset => exact ⟨hs.1, rfl, initFpu_rmAgrees s⟩
  | store a b => exact ⟨Memory.wf_write s.mem a b hs.1, hs.2⟩
  | inputs | trap | flags | ax | guards => exact hs

theorem begin_keepsInv {s : State} (hs : s.Inv) : s.begin.Inv := hs

/-- Settles O7: by the forms of a step; an instruction by its frame, a command and an act of the host case by case. -/
theorem stepKeepsInv : Obligations.StepKeepsInv := by
  intro s t hs h
  rcases step_cases h with ⟨_, _, _, _, hx⟩ | ⟨c, _, rfl⟩ | ⟨e, _, rfl⟩ | ⟨_, rfl⟩
  · exact exec_keepsInv (begin_keepsInv hs) hx
  · exact portStep_keepsInv c (begin_keepsInv hs)
  · exact hostStep_keepsInv e (begin_keepsInv hs)
  · exact hs

/-- Settles O8: at reset memory lists no byte, FX is empty, RM is nearest as CW says, and every tag is EMPTY. -/
theorem resetHasInv : Obligations.ResetHasInv :=
  ⟨⟨rfl, rfl, rfl⟩, fun q => .inl (tagOfSlot_allEmpty q)⟩

/-! ## Tags and values -/

/-- A register image installed agrees with its tag, and the other slots are as they were (48_environment.md R456). -/
theorem installReg_agreesAt (i k : Slot) (v : Fx80) (s : State) (h : k ≠ i → s.agreesAt (s.phys k)) :
    (installReg i v s).agreesAt (s.phys k) := by
  refine (setSlot_agreesAt _ _ _ _ s).mpr ?_
  split
  · split
    · exact .inl rfl
    · exact .inr rfl
  · next hne => exact h fun e => hne (e ▸ rfl)

theorem hostRead_open {s : State} (hg : s.guards = []) (n : Nat) (a : Addr) (k : Nat → Ended) :
    hostRead n a s k = k (s.mem.readLE n a) :=
  if_neg (by rw [guarded_nil s hg]; exact Bool.false_ne_true)

/-- On a host that ends no access, restoring the registers `is` brings their tags in agreement (R456). -/
theorem restoreRegs_tagsAgree (ea : Addr) (is : List Slot) {s : State} (hg : s.guards = [])
    (h : ∀ k, k ∉ is → s.agreesAt (s.phys k)) : (restoreRegs ea is s).state.tagsAgree := by
  induction is generalizing s with
  | nil =>
    intro q
    have hq := h (q - s.top) List.not_mem_nil
    rwa [State.phys, BitVec.add_comm, BitVec.sub_add_cancel] at hq
  | cons i rest ih =>
    rw [restoreRegs, hostRead80, hostRead_open hg, hostRead_open hg]
    refine ih hg fun k hk => installReg_agreesAt i k _ s fun hki => h k ?_
    simp [hki, hk]

theorem mem_stackIndices (k : Slot) : k ∈ stackIndices := by revert k; decide

/-- The state with the environment block at `ea` installed (R453). -/
def envLoaded (ea : Addr) (s : State) : State :=
  { writeCw (BitVec.ofNat 16 (s.mem.readLE 2 (ea + envCwOffset))) s with
    sw := BitVec.ofNat 16 (s.mem.readLE 2 (ea + s.envSwOffset))
    tw := BitVec.ofNat 16 (s.mem.readLE 2 (ea + s.envTwOffset)) }

theorem loadEnv_open (ea : Addr) {s : State} (hg : s.guards = []) : loadEnv ea s = .done (envLoaded ea s) := by
  simp [loadEnv, hostRead, State.guarded, hg, envLoaded]

/-- `FRSTOR` on a host that ends no access leaves the tags in agreement, whatever they were. -/
theorem execFrstor_tagsAgree {m : MemOperand} {s t : State} (hg : s.guards = []) (h : exec (.frstor m) s = .next t) :
    t.tagsAgree := by
  let u := envLoaded m.ea s
  have he : exec (.frstor m) s = finish (.frstor m) (restoreRegs m.ea stackIndices u) := by
    show execFrstor m s = _
    rw [execFrstor, getEa, guarded_nil s hg, if_neg Bool.false_ne_true, restoreState, loadEnv_open m.ea hg,
      andThen_done]
  have hr := restoreRegs_tagsAgree m.ea stackIndices (s := u) hg fun k hk => absurd (mem_stackIndices k) hk
  have ht : t.tagsAgree ↔ (restoreRegs m.ea stackIndices u).state.tagsAgree := by
    rw [he] at h
    generalize restoreRegs m.ea stackIndices u = e at h
    cases e <;> cases h <;> rfl
  exact ht.mpr hr

/-- Only `FLDENV` and `FRSTOR` load the tag word over the values. -/
theorem permitOf_loadsTw {i : Instr} {s : State} (he : ∀ m, i ≠ .fldenv m) (hr : ∀ m, i ≠ .frstor m) :
    (permitOf i s).loadsTw = false := by
  unfold permitOf
  dsimp only
  split
  · exact absurd rfl (he _)
  · exact absurd rfl (hr _)
  · rfl

/-- Settles O10: `FRSTOR` re-tags every register it loads; every other instruction by its frame. -/
theorem tagsAgreeExceptAfterFldenv : Obligations.TagsAgreeExceptAfterFldenv := by
  intro i s t hne hg hs h
  by_cases hr : ∃ m, i = .frstor m
  · obtain ⟨m, rfl⟩ := hr
    exact execFrstor_tagsAgree (hg m rfl) h
  · exact (frame_of_exec h).tags (permitOf_loadsTw hne (not_exists.mp hr)) hs

/-! ## The status word -/

/-- Only these instructions may clear a latch (10_state.md R26). -/
theorem permitOf_clears {i : Instr} {s : State} (hc : i ≠ .fclex) (hi : i ≠ .finit) (he : ∀ m, i ≠ .fldenv m)
    (hr : ∀ m, i ≠ .frstor m) (hs : ∀ m, i = .fsave m → s.params.fsaveReinit = false) :
    (permitOf i s).clears = false := by
  unfold permitOf
  dsimp only
  split
  · exact absurd rfl hc
  · exact absurd rfl hi
  · exact absurd rfl (he _)
  · exact absurd rfl (hr _)
  · exact hs _ rfl
  · rfl

/-- Only a load of the environment loads SW (R32). -/
theorem permitOf_loadsSw {i : Instr} {s : State} (he : ∀ m, i ≠ .fldenv m) (hr : ∀ m, i ≠ .frstor m) :
    (permitOf i s).loadsSw = false :=
  permitOf_loadsTw (s := s) he hr

/-- Settles O11: by the frame of the instruction, no latch permitted to be cleared and no SW to be loaded. -/
theorem latchesAreSticky : Obligations.LatchesAreSticky := by
  intro i s t n h he hr
  have hf := frame_of_exec h
  exact ⟨fun hn hc hi hs => hf.sticky (permitOf_clears hc hi he hr hs) n hn, hf.quiet (permitOf_loadsSw he hr) n⟩

/-! ## The control word and the pointer registers -/

theorem permitOf_pointers {i : Instr} {s : State} (hi : i ≠ .finit)
    (hs : ∀ m, i = .fsave m → s.params.fsaveReinit = false) : (permitOf i s).pointers = false := by
  unfold permitOf
  dsimp only
  split
  · exact absurd rfl hi
  · exact hs _ rfl
  · rfl

theorem permitOf_cw {i : Instr} {s : State} (hi : i ≠ .finit) (hc : ∀ m, i ≠ .fldcw m) (he : ∀ m, i ≠ .fldenv m)
    (hr : ∀ m, i ≠ .frstor m) (hm : ∀ m, i = .fstenv m → s.params.fstenvMasks = false)
    (hs : ∀ m, i = .fsave m → s.params.fsaveReinit = false) : (permitOf i s).cw = false := by
  unfold permitOf
  dsimp only
  split
  · exact absurd rfl (hc _)
  · exact absurd rfl (he _)
  · exact absurd rfl (hr _)
  · exact absurd rfl hi
  · exact hm _ rfl
  · exact hs _ rfl
  · rfl

/-- Settles O12: by the frame of the instruction. -/
theorem controlWordAndPointersChangedOnlyBy : Obligations.ControlWordAndPointersChangedOnlyBy := by
  intro i s t h hi hs
  have hf := frame_of_exec h
  have hp : (t.fip, t.fdp, t.fop) = (s.fip, s.fdp, s.fop) := hf.pointers (permitOf_pointers hi hs)
  simp only [Prod.mk.injEq] at hp
  obtain ⟨hfip, hfdp, hfop⟩ := hp
  exact ⟨hfip, hfdp, hfop, fun hc he hr hm => hf.cw (permitOf_cw hi hc he hr hm hs)⟩

/-! ## The host's side -/

theorem permitOf_ax {i : Instr} {s : State} (h : i ≠ .fstswAx) : (permitOf i s).ax = false := by
  unfold permitOf
  dsimp only
  split
  · exact absurd rfl h
  · rfl

theorem permitOf_flags {i : Instr} {s : State}
    (h : ∀ j, i ≠ .fcomi j ∧ i ≠ .fcomip j ∧ i ≠ .fucomi j ∧ i ≠ .fucomip j) : (permitOf i s).flags = false := by
  unfold permitOf
  dsimp only
  split
  · exact absurd rfl (h _).1
  · exact absurd rfl (h _).2.1
  · exact absurd rfl (h _).2.2.1
  · exact absurd rfl (h _).2.2.2
  · rfl

/-- Settles O13: by the frame of the instruction, which exists for every instruction and state. -/
theorem hostFrame : Obligations.HostFrame := by
  intro i s
  obtain ⟨t, ht, hf⟩ := exec_frame i s
  have hh := hf.host
  simp only [State.hostSide, Prod.mk.injEq] at hh
  obtain ⟨⟨hmf, hprot, hop, htrap⟩, hguards, hparams, hstream, hpos⟩ := hh
  have hrm (hcw : t.cw = s.cw) (h : s.rm = rcTable (rcOf s.cw)) : t.rm = s.rm := by
    rw [h, ← hcw]
    exact hf.rm h
  have hflags (h : ∀ j, i ≠ .fcomi j ∧ i ≠ .fcomip j ∧ i ≠ .fucomi j ∧ i ≠ .fucomip j) :
      t.zf = s.zf ∧ t.pf = s.pf ∧ t.cf = s.cf := by
    simpa [State.hostFlags] using hf.flags (permitOf_flags h)
  have hmem : MemFrame ((i.stored s.opsize32).map fun x => (x.1.ea, x.2)) s.mem t.mem := hf.mem
  refine ⟨t, ht, hmf, hprot, hop, htrap, hguards, hparams, hstream, hpos, hf.port rfl, hrm,
    fun h => hf.ax (permitOf_ax h), hflags, fun h => ?_, fun m n h => ?_⟩
  · rwa [h] at hmem
  · rw [h] at hmem
    exact hmem.2

/-! ## The step -/

/-- Settles O5: by the kind of the call at the position (10_state.md R30). -/
theorem stepRunsTheNextCall : Obligations.StepRunsTheNextCall := by
  intro s b
  refine ⟨fun x i h hd => ?_, fun c h => ?_, fun e h => ?_, fun h => ?_⟩
  all_goals unfold step fetch
  · simp only [h, hd]; rfl
  · simp only [h]; rfl
  · simp only [h]; rfl
  · simp only [h]

end Sys2Proof.Machine
end

section
/-! SUPPORT. Memory as a block of items: the bytes of an item at an offset from a base, and what a sequence of items
stored apart from each other leaves (20_memory.md R72 to R75). -/

namespace Sys2Proof.Machine

/-! ## The bytes of an item -/

theorem add_ofNat_succ (a : Addr) (k : Nat) : a + BitVec.ofNat 32 (k + 1) = a + 1 + BitVec.ofNat 32 k := by
  bv_omega

/-- An item in memory is little-endian (R72). -/
theorem Memory.readLE_eq_sum (mem : Memory) (n : Nat) (a : Addr) :
    mem.readLE n a = ∑ k ∈ Finset.range n, (mem.read (a + BitVec.ofNat 32 k)).toNat * 256 ^ k := by
  induction n generalizing a with
  | zero => rfl
  | succ n ih =>
    rw [Memory.readLE, ih, Finset.sum_range_succ', Finset.mul_sum, add_comm]
    congr 1
    · refine Finset.sum_congr rfl fun k _ => ?_
      rw [add_ofNat_succ, pow_succ]
      ring
    · simp

/-- The bytes of a stored item, the lowest first (R72). -/
theorem Memory.read_writeLE_inside {n k : Nat} (mem : Memory) (a : Addr) (v : Nat) (hn : n < 2 ^ 32) (hk : k < n) :
    (mem.writeLE n a v).read (a + BitVec.ofNat 32 k) = BitVec.ofNat 8 (v / 256 ^ k) := by
  induction n generalizing mem a v k with
  | zero => omega
  | succ n ih =>
    cases k with
    | zero =>
      rw [BitVec.add_zero, Memory.writeLE,
        Memory.read_writeLE_outside _ _ _ _ _ (by omega) (not_inBytes_next a n (by omega)), Memory.read_write_same]
      simp
    | succ k =>
      rw [add_ofNat_succ, Memory.writeLE, ih _ _ _ (by omega) (by omega), Nat.div_div_eq_div_mul, pow_succ,
        Nat.mul_comm]

/-- The bytes of an item at an offset, by their distance from the base. -/
theorem inBytes_at_offset (base c : Addr) {off n : Nat} (h : off + n ≤ 2 ^ 32) :
    inBytes (base + BitVec.ofNat 32 off) n c = true ↔ off ≤ (c - base).toNat ∧ (c - base).toNat < off + n := by
  have e : c - (base + BitVec.ofNat 32 off) = c - base - BitVec.ofNat 32 off := by bv_omega
  rw [inBytes, decide_eq_true_eq, e]
  generalize c - base = d
  have hd := d.isLt
  rw [BitVec.toNat_sub, BitVec.toNat_ofNat]
  omega

/-! ## Blocks of items -/

/-- One write of a handler: its offset from the base of the block, its width in bytes, the value. -/
structure Item where
  offset : Nat
  width : Nat
  value : Nat

/-- The address of an item. -/
def Item.address (base : Addr) (x : Item) : Addr := base + BitVec.ofNat 32 x.offset

/-- The byte at distance `d` from the base belongs to the item. -/
def Item.covers (x : Item) (d : Nat) : Prop := x.offset ≤ d ∧ d < x.offset + x.width

/-- The items stored one after the other. -/
def storeItems (base : Addr) : List Item → Memory → Memory
  | [], mem => mem
  | x :: rest, mem => storeItems base rest (mem.writeLE x.width (x.address base) x.value)

/-- The items go up without overlapping, below 2^32 from the base. -/
def Laid (xs : List Item) : Prop :=
  xs.Pairwise (fun x y => x.offset + x.width ≤ y.offset) ∧ ∀ x ∈ xs, x.offset + x.width < 2 ^ 32

theorem Laid.sublist {xs ys : List Item} (h : Laid ys) (hs : List.Sublist xs ys) : Laid xs :=
  ⟨h.1.sublist hs, fun x hx => h.2 x (hs.subset hx)⟩

/-- A byte of no item is as before. -/
theorem storeItems_read_outside (base b : Addr) (xs : List Item) (mem : Memory)
    (hf : ∀ x ∈ xs, x.offset + x.width < 2 ^ 32) (h : ∀ x ∈ xs, ¬ x.covers (b - base).toNat) :
    (storeItems base xs mem).read b = mem.read b := by
  induction xs generalizing mem with
  | nil => rfl
  | cons x rest ih =>
    have hx := hf x List.mem_cons_self
    rw [storeItems, ih _ (fun y hy => hf y (List.mem_cons_of_mem _ hy)) fun y hy => h y (List.mem_cons_of_mem _ hy)]
    refine Memory.read_writeLE_outside _ _ _ _ _ (by omega) (Bool.eq_false_iff.mpr fun hin => ?_)
    exact h x List.mem_cons_self ((inBytes_at_offset base b hx.le).mp hin)

/-- Every item stored is read back. -/
theorem storeItems_readLE (base : Addr) {xs : List Item} (mem : Memory) (hl : Laid xs) {x : Item} (hx : x ∈ xs) :
    (storeItems base xs mem).readLE x.width (x.address base) = x.value % 256 ^ x.width := by
  induction xs generalizing mem with
  | nil => cases hx
  | cons y rest ih =>
    obtain ⟨hpairs, hfits⟩ := hl
    obtain ⟨hbefore, hp⟩ := List.pairwise_cons.mp hpairs
    obtain ⟨hfy, hf⟩ := List.forall_mem_cons.mp hfits
    rcases List.mem_cons.mp hx with rfl | hx
    · rw [storeItems, ← Memory.readLE_writeLE x.width mem (x.address base) x.value (by omega)]
      refine Memory.readLE_congr _ _ _ _ (by omega) fun c hc => storeItems_read_outside base c rest _ hf ?_
      intro z hz hcov
      have hxc := (inBytes_at_offset base c hfy.le).mp hc
      have := hbefore z hz
      exact absurd hcov.1 (by omega)
    · exact ih _ ⟨hp, hf⟩ hx

/-! ## A sequence of writes of the host -/

/-- The writes of the items in order, until the host ends one. -/
def hostStores (base : Addr) : List Item → State → Ended
  | [], s => .done s
  | x :: rest, s => (hostWrite x.width (x.address base) x.value s).andThen (hostStores base rest)

/-- The host lets the write of an item through. -/
def Item.allowed (x : Item) (base : Addr) (s : State) : Prop := s.guarded .write (x.address base) x.width = false

theorem andThen_assoc (e : Ended) (f g : State → Ended) :
    (e.andThen f).andThen g = e.andThen fun t => (f t).andThen g := by cases e <;> rfl

theorem andThen_return (e : Ended) : e.andThen .done = e := by cases e <;> rfl

theorem hostWrite_open {n : Nat} {a : Addr} {s : State} (h : s.guarded .write a n = false) (v : Nat) :
    hostWrite n a v s = .done { s with mem := s.mem.writeLE n a v } := by
  rw [hostWrite_spec, h, if_neg Bool.false_ne_true]

theorem hostWrite_refused {n : Nat} {a : Addr} {s : State} (h : s.guarded .write a n = true) (v : Nat) :
    hostWrite n a v s = .abort { s with hostFault := some ⟨.write, a⟩ } := by
  rw [hostWrite_spec, if_pos h]

theorem hostStores_append (base : Addr) (xs ys : List Item) (s : State) :
    hostStores base (xs ++ ys) s = (hostStores base xs s).andThen (hostStores base ys) := by
  induction xs generalizing s with
  | nil => rfl
  | cons x rest ih =>
    rw [List.cons_append, hostStores, hostStores, andThen_assoc]
    exact congrArg _ (funext ih)

/-- What comes after the writes sees the state before them but for memory. -/
theorem hostStores_andThen_congr (base : Addr) (xs : List Item) {s : State} {k k' : State → Ended}
    (h : ∀ mem, k { s with mem := mem } = k' { s with mem := mem }) :
    (hostStores base xs s).andThen k = (hostStores base xs s).andThen k' := by
  induction xs generalizing s with
  | nil => exact h s.mem
  | cons x rest ih =>
    rw [hostStores, hostWrite_spec]
    split
    · rfl
    · exact ih h

theorem hostStores_open {base : Addr} {xs : List Item} {s : State} (h : ∀ x ∈ xs, x.allowed base s) :
    hostStores base xs s = .done { s with mem := storeItems base xs s.mem } := by
  induction xs generalizing s with
  | nil => rfl
  | cons x rest ih =>
    obtain ⟨hx, hrest⟩ := List.forall_mem_cons.mp h
    rw [hostStores, hostWrite_open hx, andThen_done]
    exact ih hrest

/-- The writes before a refused one stay, and nothing after it happens (R79). -/
theorem hostStores_refused {base : Addr} {before after : List Item} {x : Item} {s : State}
    (h : ∀ y ∈ before, y.allowed base s) (hx : s.guarded .write (x.address base) x.width = true) :
    hostStores base (before ++ x :: after) s =
      .abort { s with mem := storeItems base before s.mem, hostFault := some ⟨.write, x.address base⟩ } := by
  rw [hostStores_append, hostStores_open h, andThen_done, hostStores, hostWrite_refused (by exact hx), andThen_abort]

end Sys2Proof.Machine
end

section
/-! SUPPORT. The environment block and the save area as blocks of items (48_environment.md R450 to R456). -/

namespace Sys2Proof.Machine

/-! ## The environment block -/

/-- CW in the environment block (R450). -/
def cwItem (s : State) : Item := ⟨envCwOffset.toNat, 2, s.cw.toNat⟩

/-- SW in the environment block. -/
def swItem (s : State) : Item := ⟨s.envSwOffset.toNat, 2, s.sw.toNat⟩

/-- TW in the environment block. -/
def twItem (s : State) : Item := ⟨s.envTwOffset.toNat, 2, s.tw.toNat⟩

/-- The three words of the environment, in the order of R452. -/
def envItems (s : State) : List Item := [cwItem s, swItem s, twItem s]

theorem add_ofNat_toNat (base off : Addr) : base + BitVec.ofNat 32 off.toNat = base + off := by simp

theorem add_envCwOffset (ea : Addr) : ea + envCwOffset = ea := BitVec.add_zero ea

theorem cwItem_address (ea : Addr) (s : State) : (cwItem s).address ea = ea :=
  (add_ofNat_toNat ea envCwOffset).trans (add_envCwOffset ea)

theorem swItem_address (ea : Addr) (s : State) : (swItem s).address ea = ea + s.envSwOffset := add_ofNat_toNat _ _

theorem twItem_address (ea : Addr) (s : State) : (twItem s).address ea = ea + s.envTwOffset := add_ofNat_toNat _ _

theorem envSwOffset_def (s : State) : (if s.opsize32 then 4 else 2 : Addr) = s.envSwOffset := rfl

theorem envTwOffset_eq (s : State) : s.envTwOffset = 2 * s.envSwOffset := by
  unfold State.envTwOffset State.envSwOffset
  split <;> rfl

theorem envSwOffset_toNat (s : State) : s.envSwOffset.toNat = if s.opsize32 then 4 else 2 := by
  unfold State.envSwOffset
  split <;> rfl

theorem envTwOffset_toNat (s : State) : s.envTwOffset.toNat = if s.opsize32 then 8 else 4 := by
  unfold State.envTwOffset
  split <;> rfl

/-- The layout of the block (R450). -/
theorem envItems_layout {s : State} {x : Item} (hx : x ∈ envItems s) : x.width = 2 ∧
    (x.offset = 0 ∨ x.offset = (if s.opsize32 then 4 else 2) ∨ x.offset = (if s.opsize32 then 8 else 4)) := by
  simp only [envItems, List.mem_cons, List.not_mem_nil, or_false] at hx
  rcases hx with rfl | rfl | rfl
  · exact ⟨rfl, .inl rfl⟩
  · exact ⟨rfl, .inr (.inl (envSwOffset_toNat s))⟩
  · exact ⟨rfl, .inr (.inr (envTwOffset_toNat s))⟩

theorem storeEnv_eq (ea : Addr) (s : State) : storeEnv ea s = hostStores ea (envItems s) s := by
  simp only [storeEnv, envItems, hostStores, cwItem, swItem, twItem, Item.address, add_ofNat_toNat, andThen_assoc,
    andThen_return]

/-- The words read back from a block that holds the items of the environment. -/
theorem envItems_readLE {ea : Addr} {s : State} {xs : List Item} (mem : Memory) (hl : Laid xs)
    (hx : ∀ x ∈ envItems s, x ∈ xs) :
    (storeItems ea xs mem).readLE 2 ea = s.cw.toNat ∧
      (storeItems ea xs mem).readLE 2 (ea + s.envSwOffset) = s.sw.toNat ∧
      (storeItems ea xs mem).readLE 2 (ea + 2 * s.envSwOffset) = s.tw.toNat := by
  have hcw := storeItems_readLE ea mem hl (hx (cwItem s) (by simp [envItems]))
  have hsw := storeItems_readLE ea mem hl (hx (swItem s) (by simp [envItems]))
  have htw := storeItems_readLE ea mem hl (hx (twItem s) (by simp [envItems]))
  rw [cwItem_address] at hcw
  rw [swItem_address] at hsw
  rw [twItem_address, envTwOffset_eq] at htw
  exact ⟨hcw.trans (Nat.mod_eq_of_lt s.cw.isLt), hsw.trans (Nat.mod_eq_of_lt s.sw.isLt),
    htw.trans (Nat.mod_eq_of_lt s.tw.isLt)⟩

/-- The bytes of the three words are those of the layout (R450). -/
theorem envItems_covers {s : State} {x : Item} {d : Nat} (hx : x ∈ envItems s) (hd : x.covers d) :
    isEnvWordByte s.opsize32 d = true := by
  obtain ⟨hlo, hhi⟩ := hd
  obtain ⟨hw, ho⟩ := envItems_layout hx
  cases h : s.opsize32 with
  | false =>
    simp only [h, Bool.false_eq_true, if_false] at ho
    simp only [isEnvWordByte, Bool.false_eq_true, if_false, decide_eq_true_eq]
    omega
  | true =>
    simp only [h, if_true] at ho
    simp only [isEnvWordByte, if_true, Bool.or_eq_true, beq_iff_eq]
    omega

/-! ## The save area -/

/-- The low part of the image of ST(i) (R454). -/
def lowItem (s : State) (i : Slot) : Item := ⟨s.envSize + 10 * i.toNat, 8, (s.st i).low.toNat⟩

/-- The high part of the image of ST(i). -/
def highItem (s : State) (i : Slot) : Item := ⟨s.envSize + 10 * i.toNat + 8, 2, (s.st i).high.toNat⟩

/-- The image of ST(i), the low part first (20_memory.md R75). -/
def imageItems (s : State) (i : Slot) : List Item := [lowItem s i, highItem s i]

/-- Everything `FSAVE` stores, in its order (R455). -/
def saveItems (s : State) : List Item := envItems s ++ stackIndices.flatMap (imageItems s)

theorem add_ofNat_eight (ea : Addr) (n : Nat) : ea + BitVec.ofNat 32 (n + 8) = ea + BitVec.ofNat 32 n + 8 := by
  bv_omega

theorem lowItem_address (ea : Addr) (s : State) (i : Slot) : (lowItem s i).address ea = s.imageAddr ea i := rfl

theorem highItem_address (ea : Addr) (s : State) (i : Slot) : (highItem s i).address ea = s.imageAddr ea i + 8 :=
  add_ofNat_eight ea _

theorem hostWrite80_eq (ea : Addr) (i : Slot) (s : State) :
    hostWrite80 (s.imageAddr ea i) (s.st i) s = hostStores ea (imageItems s i) s := by
  simp only [imageItems, hostStores, lowItem_address, highItem_address, andThen_return]
  rfl

theorem saveRegs_eq (ea : Addr) (is : List Slot) (s : State) :
    saveRegs ea is s = hostStores ea (is.flatMap (imageItems s)) s := by
  induction is generalizing s with
  | nil => rfl
  | cons i rest ih =>
    rw [saveRegs, hostWrite80_eq, List.flatMap_cons, hostStores_append]
    exact hostStores_andThen_congr _ _ fun mem => ih { s with mem := mem }

/-- `FSAVE` stores its items, then re-initialises where the parameter says so (R455). -/
theorem saveState_eq (ea : Addr) (s : State) :
    saveState ea s = (hostStores ea (saveItems s) s).andThen fun t =>
      .done (if t.params.fsaveReinit then initFpu t else t) := by
  rw [saveState, storeEnv_eq, saveItems, hostStores_append]
  congr 1
  exact hostStores_andThen_congr _ _ fun mem => saveRegs_eq ea _ { s with mem := mem }

/-- The words of the environment lie inside its block. -/
theorem envItems_bound {s : State} {x : Item} (hx : x ∈ envItems s) : x.offset + x.width ≤ s.envSize := by
  obtain ⟨hw, ho⟩ := envItems_layout hx
  unfold State.envSize
  split_ifs at ho ⊢ <;> omega

/-- The parts of an image lie inside its ten bytes. -/
theorem imageItems_bound {s : State} {i : Slot} {x : Item} (hx : x ∈ imageItems s i) :
    s.envSize + 10 * i.toNat ≤ x.offset ∧ x.offset + x.width ≤ s.envSize + 10 * i.toNat + 10 := by
  simp only [imageItems, List.mem_cons, List.not_mem_nil, or_false] at hx
  rcases hx with rfl | rfl <;> simp [lowItem, highItem]

theorem envSize_le (s : State) : s.envSize ≤ 28 := by
  unfold State.envSize
  split <;> decide

/-- The items of the save area follow one another: the words, then the images in ascending order. -/
theorem laid_saveItems (s : State) : Laid (saveItems s) := by
  constructor
  · refine List.pairwise_append.mpr ⟨?_, List.pairwise_flatMap.mpr ⟨fun i _ => ?_, ?_⟩, fun x hx y hy => ?_⟩
    · simp only [envItems, cwItem, swItem, twItem, envCwOffset, envSwOffset_toNat, envTwOffset_toNat]
      split <;> simp
    · simp [imageItems, lowItem, highItem]
    · have hsorted : stackIndices.Pairwise (· < ·) := by decide
      refine hsorted.imp fun {i j} hij x hx y hy => ?_
      have hx := imageItems_bound hx
      have hy := imageItems_bound hy
      have hij : i.toNat < j.toNat := hij
      omega
    · obtain ⟨i, _, hy⟩ := List.mem_flatMap.mp hy
      have hx := envItems_bound hx
      have hy := imageItems_bound hy
      omega
  · intro x hx
    have hsize := envSize_le s
    rcases List.mem_append.mp hx with hx | hx
    · have hx := envItems_bound hx
      omega
    · obtain ⟨i, _, hx⟩ := List.mem_flatMap.mp hx
      have hx := imageItems_bound hx
      omega

theorem laid_envItems (s : State) : Laid (envItems s) :=
  (laid_saveItems s).sublist (List.sublist_append_left _ _)

theorem lowItem_readLE {s : State} {ea : Addr} {xs : List Item} (mem : Memory) (hl : Laid xs)
    {i : Slot} (h : lowItem s i ∈ xs) :
    (storeItems ea xs mem).readLE 8 (s.imageAddr ea i) = (s.st i).low.toNat :=
  (storeItems_readLE ea mem hl h).trans (Nat.mod_eq_of_lt (s.st i).low.isLt)

theorem highItem_readLE {s : State} {ea : Addr} {xs : List Item} (mem : Memory) (hl : Laid xs)
    {i : Slot} (h : highItem s i ∈ xs) :
    (storeItems ea xs mem).readLE 2 (s.imageAddr ea i + 8) = (s.st i).high.toNat := by
  rw [← highItem_address]
  exact (storeItems_readLE ea mem hl h).trans (Nat.mod_eq_of_lt (s.st i).high.isLt)

/-- An image among the items stored is the register's value. -/
theorem imageItems_read80 {s : State} {ea : Addr} {xs : List Item} (mem : Memory) (hl : Laid xs) {i : Slot}
    (h : ∀ x ∈ imageItems s i, x ∈ xs) : (storeItems ea xs mem).read80 (s.imageAddr ea i) = s.st i := by
  rw [Memory.read80, lowItem_readLE mem hl (h _ (by simp [imageItems])),
    highItem_readLE mem hl (h _ (by simp [imageItems])), BitVec.ofNat_toNat, BitVec.ofNat_toNat,
    BitVec.setWidth_eq, BitVec.setWidth_eq]

end Sys2Proof.Machine
end

section
/-! SUPPORT. How an instruction with a memory operand begins: every reader with `GetEA` and its first read, every store
with `GetEA` (20_memory.md R71, R79). -/

namespace Sys2Proof.Machine

variable {n : Nat} {a : Addr} {m : MemOperand} {s : State}

/-! ## Accesses the host ends -/

theorem getEa_refused {rw : Bool} (h : s.guarded (.getEa rw) m.ea 1 = true) (k : Addr → Ended) :
    getEa rw m s k = .abort { s with hostFault := some ⟨.getEa rw, m.ea⟩ } := if_pos h

theorem getEa_open {rw : Bool} (h : s.guarded (.getEa rw) m.ea 1 = false) (k : Addr → Ended) :
    getEa rw m s k = k m.ea := if_neg (Bool.eq_false_iff.mp h)

theorem hostRead_refused (h : s.guarded .read a n = true) (k : Nat → Ended) :
    hostRead n a s k = .abort { s with hostFault := some ⟨.read, a⟩ } := if_pos h

theorem hostRead_allowed (h : s.guarded .read a n = false) (k : Nat → Ended) :
    hostRead n a s k = k (s.mem.readLE n a) := if_neg (Bool.eq_false_iff.mp h)

/-- An 80-bit read that the host lets through. -/
theorem hostRead80_allowed (h : s.guarded .read a 8 = false) (h' : s.guarded .read (a + 8) 2 = false)
    (k : Fx80 → Ended) : hostRead80 a s k = k (s.mem.read80 a) := by
  rw [hostRead80, hostRead_allowed h, hostRead_allowed h', Memory.read80]

/-- An 80-bit read that the host ends, in its first or its second part (R75, R79). -/
theorem hostRead80_refused {b : Addr} (k : Fx80 → Ended)
    (h : (b = a ∧ s.guarded .read b 8 = true) ∨
      (b = a + 8 ∧ s.guarded .read a 8 = false ∧ s.guarded .read b 2 = true)) :
    hostRead80 a s k = .abort { s with hostFault := some ⟨.read, b⟩ } := by
  rcases h with ⟨rfl, h⟩ | ⟨rfl, h, h'⟩
  · rw [hostRead80, hostRead_refused h]
  · rw [hostRead80, hostRead_allowed h, hostRead_refused h']

/-! ## The first accesses of an instruction -/

theorem hostRead_andThen (n : Nat) (a : Addr) (s : State) (k : Nat → Ended) (g : State → Ended) :
    (hostRead n a s k).andThen g = hostRead n a s fun w => (k w).andThen g := by
  unfold hostRead
  split <;> rfl

/-- A handler that begins with `GetEA` and the read of `n` bytes. -/
def Reads (n : Nat) (m : MemOperand) (s : State) (e : Ended) : Prop :=
  ∃ k : Addr → Nat → Ended, e = getEa false m s fun ea => hostRead n ea s (k ea)

theorem reads_memWord (n : Nat) (m : MemOperand) (s : State) (k : Nat → Ended) : Reads n m s (memWord n m s k) :=
  ⟨fun _ => k, rfl⟩

theorem reads_memSource80 (m : MemOperand) (s : State) (k : Fx80 → Ended) : Reads 8 m s (memSource80 m s k) :=
  ⟨fun ea lo => hostRead 2 (ea + 8) s fun hi => k ⟨BitVec.ofNat 16 hi, BitVec.ofNat 64 lo⟩, rfl⟩

/-- The first word of the environment is at its base (48_environment.md R450, R453). -/
theorem loadEnv_first (ea : Addr) (s : State) : ∃ k, loadEnv ea s = hostRead 2 ea s k := by
  rw [loadEnv, add_envCwOffset]
  exact ⟨_, rfl⟩

theorem reads_loadEnv (m : MemOperand) (s : State) : Reads 2 m s (getEa false m s fun ea => loadEnv ea s) := by
  choose k hk using loadEnv_first
  exact ⟨fun ea => k ea s, congrArg (getEa false m s) (funext fun ea => hk ea s)⟩

theorem reads_restoreState (m : MemOperand) (s : State) :
    Reads 2 m s (getEa false m s fun ea => restoreState ea s) := by
  choose k hk using loadEnv_first
  refine ⟨fun ea w => (k ea s w).andThen (restoreRegs ea stackIndices),
    congrArg (getEa false m s) (funext fun ea => ?_)⟩
  rw [restoreState, hk, hostRead_andThen]

/-- The two ways in which the host ends a handler at its beginning (20_memory.md R79). -/
theorem Reads.refused {i : Instr} {e : Ended} (he : Reads n m s e) :
    (s.guarded (.getEa false) m.ea 1 = true →
      finish i e = .next { s with hostFault := some ⟨.getEa false, m.ea⟩ }) ∧
    (s.guarded (.getEa false) m.ea 1 = false → s.guarded .read m.ea n = true →
      finish i e = .next { s with hostFault := some ⟨.read, m.ea⟩ }) := by
  obtain ⟨k, rfl⟩ := he
  refine ⟨fun hea => ?_, fun hea hr => ?_⟩
  · rw [getEa_refused hea, finish_abort]
  · rw [getEa_open hea, hostRead_refused hr, finish_abort]

/-- The handler of an instruction that reads begins with `GetEA` and the read of its first access. -/
theorem exec_reads {i : Instr} (s : State) (h : i.access = some (false, n, m)) :
    ∃ e, exec i s = finish i e ∧ Reads n m s e := by
  cases i
  case faddM32real | fmulM32real | fsubM32real | fsubrM32real | fdivM32real | fdivrM32real | fiaddM32int | fimulM32int
    | fisubM32int | fisubrM32int | fidivM32int | fidivrM32int | faddM64real | fmulM64real | fsubM64real | fsubrM64real
    | fdivM64real | fdivrM64real | fiaddM16int | fimulM16int | fisubM16int | fisubrM16int | fidivM16int
    | fidivrM16int | fcomM32real | fcompM32real | fcomM64real | fcompM64real | ficomM16int | ficompM16int | ficomM32int
    | ficompM32int | fldM32real | fldM64real | fildM16int | fildM32int | fildM64int | fldcw =>
    cases h
    exact ⟨_, rfl, reads_memWord _ _ s _⟩
  case fldM80real | fbld =>
    cases h
    exact ⟨_, rfl, reads_memSource80 _ s _⟩
  case fldenv =>
    cases h
    exact ⟨_, rfl, reads_loadEnv _ s⟩
  case frstor =>
    cases h
    exact ⟨_, rfl, reads_restoreState _ s⟩
  all_goals cases h

end Sys2Proof.Machine
end

section
/-! SUPPORT. What `FLDENV` and `FRSTOR` install before the host ends one of their reads (48_environment.md R453, R456;
20_memory.md R79). -/

namespace Sys2Proof.Machine

variable {ea : Addr} {m : MemOperand} {s : State}

/-! ## The words of the environment -/

theorem loadEnv_second_refused (h : s.guarded .read ea 2 = false)
    (h2 : s.guarded .read (ea + s.envSwOffset) 2 = true) :
    loadEnv ea s = .abort { writeCw (BitVec.ofNat 16 (s.mem.readLE 2 ea)) s with
      hostFault := some ⟨.read, ea + s.envSwOffset⟩ } := by
  rw [loadEnv, add_envCwOffset, hostRead_allowed h]
  exact hostRead_refused (by exact h2) _

theorem loadEnv_third_refused (h : s.guarded .read ea 2 = false)
    (h2 : s.guarded .read (ea + s.envSwOffset) 2 = false) (h3 : s.guarded .read (ea + s.envTwOffset) 2 = true) :
    loadEnv ea s = .abort { writeCw (BitVec.ofNat 16 (s.mem.readLE 2 ea)) s with
      sw := BitVec.ofNat 16 (s.mem.readLE 2 (ea + s.envSwOffset)),
      hostFault := some ⟨.read, ea + s.envTwOffset⟩ } := by
  rw [loadEnv, add_envCwOffset, hostRead_allowed h]
  exact (hostRead_allowed (by exact h2) _).trans (hostRead_refused (by exact h3) _)

theorem loadEnv_allowed (h : s.guarded .read ea 2 = false)
    (h2 : s.guarded .read (ea + s.envSwOffset) 2 = false) (h3 : s.guarded .read (ea + s.envTwOffset) 2 = false) :
    loadEnv ea s = .done (envLoaded ea s) := by
  rw [loadEnv, envLoaded, add_envCwOffset, hostRead_allowed h]
  exact (hostRead_allowed (by exact h2) _).trans (hostRead_allowed (by exact h3) _)

theorem exec_fldenv (h : s.guarded (.getEa false) m.ea 1 = false) :
    exec (.fldenv m) s = finish (.fldenv m) (loadEnv m.ea s) := by
  have he : exec (.fldenv m) s = finish (.fldenv m) (getEa false m s fun ea => loadEnv ea s) := rfl
  rw [he, getEa_open h]

theorem exec_frstor (h : s.guarded (.getEa false) m.ea 1 = false) :
    exec (.frstor m) s = finish (.frstor m) ((loadEnv m.ea s).andThen (restoreRegs m.ea stackIndices)) := by
  have he : exec (.frstor m) s = finish (.frstor m) (getEa false m s fun ea => restoreState ea s) := rfl
  rw [he, getEa_open h, restoreState]

/-- A read of a word that the host ends is the end of `FLDENV` and of `FRSTOR`. -/
theorem exec_loadEnv_aborted {i : Instr} {t : State} (hi : i = .fldenv m ∨ i = .frstor m)
    (h : s.guarded (.getEa false) m.ea 1 = false) (ht : loadEnv m.ea s = .abort t) : exec i s = .next t := by
  rcases hi with rfl | rfl
  · rw [exec_fldenv h, ht, finish_abort]
  · rw [exec_frstor h, ht, andThen_abort, finish_abort]

/-! ## The register images -/

/-- The state with the images of the registers `is` installed from the save area at `ea` (R456). -/
def installImages (ea : Addr) : List Slot → State → State
  | [], s => s
  | i :: rest, s => installImages ea rest (installReg i (s.mem.read80 (s.imageAddr ea i)) s)

/-- Both parts of the image of ST(i) can be read. -/
def State.imageReadable (s : State) (ea : Addr) (i : Slot) : Prop :=
  s.guarded .read (s.imageAddr ea i) 8 = false ∧ s.guarded .read (s.imageAddr ea i + 8) 2 = false

/-- The images before a refused one are installed, and nothing after it (20_memory.md R79). -/
theorem restoreRegs_refused {j : Slot} {a : Addr} {before after : List Slot}
    (hb : ∀ i ∈ before, s.imageReadable ea i)
    (ha : (a = s.imageAddr ea j ∧ s.guarded .read a 8 = true) ∨
      (a = s.imageAddr ea j + 8 ∧ s.guarded .read (s.imageAddr ea j) 8 = false ∧ s.guarded .read a 2 = true)) :
    restoreRegs ea (before ++ j :: after) s =
      .abort { installImages ea before s with hostFault := some ⟨.read, a⟩ } := by
  induction before generalizing s with
  | nil => exact hostRead80_refused _ ha
  | cons i rest ih =>
    obtain ⟨hi, hrest⟩ := List.forall_mem_cons.mp hb
    rw [List.cons_append, restoreRegs, hostRead80_allowed hi.1 hi.2]
    exact ih hrest ha

/-- Only registers and tags are installed. -/
theorem installImages_rest (is : List Slot) (s : State) :
    installImages ea is s = { s with regs := (installImages ea is s).regs, tw := (installImages ea is s).tw } := by
  induction is generalizing s with
  | nil => rfl
  | cons i rest ih => exact ih _

theorem isEmpty_iff (s : State) (k : Slot) : s.isEmpty k = true ↔ tagOfSlot s.tw (s.phys k) = tagEmpty := by
  rw [State.isEmpty, State.tag, beq_iff_eq]

theorem tagOf_ne_empty (v : Fx80) : tagOf v ≠ tagEmpty := by
  unfold tagOf
  split_ifs <;> decide

theorem phys_inj (s : State) {i k : Slot} : s.phys k = s.phys i ↔ k = i := by simp [State.phys]

/-- An image installed leaves every slot occupied or EMPTY as it was. -/
theorem installReg_isEmpty (i k : Slot) (v : Fx80) (s : State) : (installReg i v s).isEmpty k = s.isEmpty k := by
  have ht : tagOfSlot (installReg i v s).tw (s.phys k) =
      if s.phys k = s.phys i then (if s.isEmpty i then tagEmpty else tagOf v) else tagOfSlot s.tw (s.phys k) :=
    setSlot_tag _ _ _ _ _
  rw [Bool.eq_iff_iff, isEmpty_iff, isEmpty_iff]
  change tagOfSlot (installReg i v s).tw (s.phys k) = tagEmpty ↔ _
  rw [ht]
  split
  · next hk =>
    rw [hk, ← isEmpty_iff]
    split
    · next he => simp [he]
    · next he => simp [he, tagOf_ne_empty]
  · rfl

/-- A register after the images are installed. -/
theorem installImages_reg (is : List Slot) (s : State) (k : Slot) :
    (installImages ea is s).reg (s.phys k) =
      if k ∈ is then s.mem.read80 (s.imageAddr ea k) else s.reg (s.phys k) := by
  induction is generalizing s with
  | nil => rfl
  | cons i rest ih =>
    have hi : (installReg i (s.mem.read80 (s.imageAddr ea i)) s).reg (s.phys k) =
        if s.phys k = s.phys i then s.mem.read80 (s.imageAddr ea i) else s.reg (s.phys k) := setSlot_reg _ _ _ _ _
    refine (ih (installReg i (s.mem.read80 (s.imageAddr ea i)) s)).trans ?_
    by_cases hr : k ∈ rest
    · rw [if_pos hr, if_pos (List.mem_cons_of_mem i hr)]
      rfl
    · rw [if_neg hr]
      refine hi.trans ?_
      by_cases hk : k = i
      · subst hk
        simp
      · rw [if_neg (mt (phys_inj s).mp hk), if_neg (by simp [hk, hr])]

/-- A tag after the images are installed: by inspection, unless the slot is EMPTY. -/
theorem installImages_tag (is : List Slot) (s : State) (k : Slot) :
    tagOfSlot (installImages ea is s).tw (s.phys k) =
      if k ∈ is then (if s.isEmpty k then tagEmpty else tagOf (s.mem.read80 (s.imageAddr ea k)))
      else tagOfSlot s.tw (s.phys k) := by
  induction is generalizing s with
  | nil => rfl
  | cons i rest ih =>
    let t := installReg i (s.mem.read80 (s.imageAddr ea i)) s
    have hi : tagOfSlot t.tw (s.phys k) = if s.phys k = s.phys i then
        (if s.isEmpty i then tagEmpty else tagOf (s.mem.read80 (s.imageAddr ea i))) else tagOfSlot s.tw (s.phys k) :=
      setSlot_tag _ _ _ _ _
    refine (ih t).trans ?_
    by_cases hr : k ∈ rest
    · rw [if_pos hr, if_pos (List.mem_cons_of_mem i hr), installReg_isEmpty]
      rfl
    · rw [if_neg hr]
      refine hi.trans ?_
      by_cases hk : k = i
      · subst hk
        simp
      · rw [if_neg (mt (phys_inj s).mp hk), if_neg (by simp [hk, hr])]

/-- The images in their order, around the one of ST(j). -/
theorem stackIndices_split (j : Slot) :
    stackIndices = stackIndices.filter (· < j) ++ j :: stackIndices.filter (j < ·) := by revert j; decide

theorem mem_stackIndices_below (j k : Slot) : k ∈ stackIndices.filter (· < j) ↔ k < j := by
  simp [List.mem_filter, mem_stackIndices]

end Sys2Proof.Machine
end

section
/-! SUPPORT. What a store leaves in the status word and the stack until its write (42_load_store.md R240 to R254;
40_kernel_and_protocol.md R165, R172): the encoders in the terms of the claims, and the funnel before the commit. -/

namespace Sys2Proof.Machine

variable {s t u v : State} {w : Word}

/-! ## The encoders in the terms of the claims -/

/-- The kernel flags of two operations are latched as those of one and of the other. -/
theorem latchMask_union (f g : KFlags) : latchMask (f.union g) = latchMask f ||| latchMask g := by
  have hflag (x y : Bool) (c : Word) :
      (if (x || y) = true then c else 0#16) = (if x = true then c else 0#16) ||| (if y = true then c else 0#16) := by
    cases x <;> cases y <;> simp
  dsimp only [latchMask, KFlags.union]
  simp only [hflag]
  ac_rfl

/-- `u` is `s` after checks and computation that leave SW as `w` once FX is drained, but for what FX held before. -/
def Drains (s u : State) (w : Word) : Prop :=
  ∃ sw fx, sw ||| latchMask fx = w ||| latchMask s.fx ∧ u = { s with sw := sw, fx := fx }

theorem drains_refl (s : State) : Drains s s s.sw := ⟨_, _, rfl, rfl⟩

theorem drains_latch_IE (s : State) : Drains s (latch bitIE s) (invalidated s.sw) := ⟨_, _, rfl, rfl⟩

theorem drains_addFx (f : KFlags) (s : State) : Drains s (addFx f s) (s.sw ||| latchMask f) := by
  refine ⟨s.sw, s.fx.union f, ?_, rfl⟩
  rw [latchMask_union]
  ac_rfl

theorem drains_latch_IE_addFx (f : KFlags) (s : State) :
    Drains s (latch bitIE (addFx f s)) (invalidated (s.sw ||| latchMask f)) := by
  refine ⟨invalidated s.sw, s.fx.union f, ?_, rfl⟩
  rw [latchMask_union, invalidated, invalidated]
  ac_rfl

theorem drains_setStackUnderflow (s : State) : Drains s (setStackUnderflow s) (underflowed s.sw) :=
  ⟨_, _, congrArg (· ||| latchMask s.fx) (setStackUnderflow_mask s), rfl⟩

/-- An image and the state its encoder leaves, as a claim's term says them. -/
structure Encodes {α : Type} (s : State) (r : α × State) (o : α × Word) : Prop where
  image : r.1 = o.1
  state : Drains s r.2 o.2

/-- A store from ST(0) encodes the substitute when it is EMPTY, else what its encoder gives. -/
theorem encodes_storeImage {α : Type} {absent : α} {enc : Fx80 → State → α × State} {o : α × Word}
    (h : s.isEmpty 0 = false → Encodes s (enc (s.st 0) s) o) :
    Encodes s (storeImage absent enc s) (if s.isEmpty 0 then (absent, underflowed s.sw) else o) := by
  have he : s.anyEmpty [0] = s.isEmpty 0 := by simp [State.anyEmpty]
  unfold storeImage checkOperands
  rw [he]
  split
  · exact ⟨rfl, drains_setStackUnderflow s⟩
  · next hs => exact h (by simpa using hs)

/-- A choice between two encodings, by conditions that agree. -/
theorem Encodes.ite {α : Type} {c d : Prop} [Decidable c] [Decidable d] {r r' : α × State} {o o' : α × Word}
    (hcd : c ↔ d) (h : Encodes s r o) (h' : Encodes s r' o') :
    Encodes s (if c then r else r') (if d then o else o') := by
  by_cases hc : c
  · rwa [if_pos hc, if_pos (hcd.mp hc)]
  · rwa [if_neg hc, if_neg (mt hcd.mpr hc)]

/-- The same, where one condition is the negation of the other. -/
theorem Encodes.ite_flip {α : Type} {c d : Prop} [Decidable c] [Decidable d] {r r' : α × State} {o o' : α × Word}
    (hcd : ¬ c ↔ d) (h : Encodes s r o) (h' : Encodes s r' o') :
    Encodes s (if c then r else r') (if d then o' else o) := by
  rw [← ite_not]
  exact .ite hcd h' h

/-- An encoder of a supported value. -/
theorem if_supported {α : Type} {v : Fx80} (h : v.isUnsupported = false) (x y : α) :
    (if v.isUnsupported then x else y) = y := by simp [h]

theorem encodes_real32 (h : s.isEmpty 0 = true ∨ (s.st 0).isUnsupported = false) :
    Encodes s (storeImage 0xFFC00000#32 encF32 s) (real32Out s) := by
  refine encodes_storeImage fun he => ?_
  rw [encF32, if_supported (h.resolve_left (Bool.eq_false_iff.mp he))]
  exact .ite Iff.rfl ⟨rfl, drains_latch_IE s⟩ ⟨rfl, drains_addFx _ s⟩

theorem encodes_real64 (h : s.isEmpty 0 = true ∨ (s.st 0).isUnsupported = false) :
    Encodes s (storeImage 0xFFF8000000000000#64 encF64 s) (real64Out s) := by
  refine encodes_storeImage fun he => ?_
  rw [encF64, if_supported (h.resolve_left (Bool.eq_false_iff.mp he))]
  exact .ite Iff.rfl ⟨rfl, drains_latch_IE s⟩ ⟨rfl, drains_addFx _ s⟩

theorem encodes_int (n : Nat) (h : s.isEmpty 0 = true ∨ (s.st 0).isUnsupported = false) :
    Encodes s (intImage n s) (intOut n s) := by
  refine encodes_storeImage fun he => ?_
  rw [encInt, if_supported (h.resolve_left (Bool.eq_false_iff.mp he))]
  refine .ite (by simp) ⟨rfl, drains_latch_IE s⟩ ?_
  refine .ite_flip (by simp only [not_or, not_lt]) ⟨rfl, drains_latch_IE_addFx _ s⟩ ⟨rfl, drains_addFx _ s⟩

theorem encodes_bcd (h : s.isEmpty 0 = true ∨ (s.st 0).isUnsupported = false) :
    Encodes s (storeImage bcdIndefinite bcdImage s) (bcdOut s) := by
  refine encodes_storeImage fun he => ?_
  rw [bcdImage, if_supported (h.resolve_left (Bool.eq_false_iff.mp he))]
  refine .ite (by simp) ⟨rfl, drains_latch_IE s⟩ ?_
  refine .ite_flip (by rw [not_le]) ⟨rfl, drains_latch_IE_addFx _ s⟩ ⟨rfl, drains_addFx _ s⟩

/-- `FSTP m80real` stores ST(0) verbatim, whatever it is (R245). -/
theorem encodes_real80 (s : State) :
    Encodes s (storeImage indef (fun v t => (v, t)) s)
      (if s.isEmpty 0 then (indef, underflowed s.sw) else (s.st 0, s.sw)) :=
  encodes_storeImage fun _ => ⟨rfl, drains_refl s⟩

/-! ## The stack until the commit -/

/-- The registers, the tags, TOP and CW are as they were, and the status word but for the latches, ES and C1. -/
structure StackKept (s t : State) : Prop where
  regs : t.regs = s.regs
  tw : t.tw = s.tw
  top : t.top = s.top
  cw : t.cw = s.cw
  word : t.sw &&& 0xFD00#16 = s.sw &&& 0xFD00#16

/-- The bits of SW outside the latches, ES and C1 are among those that checks and computation keep. -/
theorem Latched.mask {v w : Word} (h : Latched v w) : w &&& 0xFD00#16 = v &&& 0xFD00#16 := by
  have hbits : ∀ k < 16, (0xFD00#16).getLsbD k = true → 7 ≤ k ∧ k ≠ 9 := by decide
  refine word_ext fun k hk => ?_
  rw [BitVec.getLsbD_and, BitVec.getLsbD_and]
  cases hb : (0xFD00#16).getLsbD k with
  | false => rw [Bool.and_false, Bool.and_false]
  | true =>
    obtain ⟨h7, h9⟩ := hbits k hk hb
    rw [h.same k (.inr h7) h9]

/-- TOP is among the bits kept. -/
theorem topOf_of_mask {v w : Word} (h : w &&& 0xFD00#16 = v &&& 0xFD00#16) : topOf w = topOf v := by
  have hbits : ∀ k < 3, (0xFD00#16).getLsbD (11 + k) = true := by decide
  refine BitVec.eq_of_getLsbD_eq fun k hk => ?_
  have hbit := congrArg (·.getLsbD (11 + k)) h
  simp only [BitVec.getLsbD_and, hbits k hk, Bool.and_true] at hbit
  rw [topOf_getLsbD, topOf_getLsbD, hbit]

theorem mask_clearES (w : Word) : (w &&& 0xFF7F#16) &&& 0xFD00#16 = w &&& 0xFD00#16 := by
  rw [BitVec.and_assoc]
  rfl

theorem mask_setES (w : Word) : (w ||| 0x0080#16) &&& 0xFD00#16 = w &&& 0xFD00#16 := by
  refine word_ext fun k hk => ?_
  have hbits : ∀ k < 16, ((0x0080#16).getLsbD k && (0xFD00#16).getLsbD k) = false := by decide
  rw [BitVec.getLsbD_and, BitVec.getLsbD_and, BitVec.getLsbD_or, Bool.and_or_distrib_right, hbits k hk, Bool.or_false]

/-- A cycle report changes the cycle counter alone. -/
theorem afterTrap_eq (i : Instr) (s : State) : ∃ c, afterTrap i s = { s with cycles := c } := by
  unfold afterTrap
  split
  · exact ⟨s.cycles, rfl⟩
  · exact ⟨_, rfl⟩

/-- What a funnel can do after checks and computation: with nothing pending the commit starts, else the handler ends,
and up to there stack and memory are as they were (40_kernel_and_protocol.md R165, R172). -/
theorem funnel_outcome (h : Computed s u) (c : State → Ended) :
    ∃ v, StackKept s v ∧ v.mem = s.mem ∧ v.guards = s.guards ∧
      ((pendingOf v.cw v.sw = 0#6 ∧ funnel c u = c v) ∨ (pendingOf v.cw v.sw ≠ 0#6 ∧ funnel c u = afterRequest v)) := by
  obtain ⟨sw, fx, n, hl, rfl⟩ := h
  have hm : (sw ||| latchMask fx) &&& 0xFD00#16 = s.sw &&& 0xFD00#16 := (hl.trans (latched_latchMask sw fx)).mask
  have hkept {t : State} (hr : t.regs = s.regs) (htw : t.tw = s.tw) (hcw : t.cw = s.cw)
      (hw : t.sw &&& 0xFD00#16 = (sw ||| latchMask fx) &&& 0xFD00#16) : StackKept s t :=
    ⟨hr, htw, topOf_of_mask (hw.trans hm), hcw, hw.trans hm⟩
  rw [funnel_spec]
  split
  · next hp =>
    refine ⟨_, ?_, ?_, ?_, .inl ⟨?_, rfl⟩⟩
    · exact hkept rfl rfl rfl (mask_clearES _)
    · rfl
    · rfl
    · exact (pendingOf_clearES _ _).trans hp
  · next hp =>
    refine ⟨_, ?_, ?_, ?_, .inr ⟨?_, rfl⟩⟩
    · exact hkept rfl rfl rfl (mask_setES _)
    · rfl
    · rfl
    · exact fun h0 => hp ((pendingOf_setES _ _).symm.trans h0)

/-- The funnel of a claim's status word (R165, R172). -/
theorem Drains.funnel (h : Drains s u w) (hfx : s.fx = KFlags.empty) (c : State → Ended) :
    funnel c u = if pendingOf s.cw w = 0#6 then c { s with sw := w &&& 0xFF7F#16 }
      else afterRequest (suppressed s w) := by
  obtain ⟨sw, fx, hword, rfl⟩ := h
  have hw : sw ||| latchMask fx = w := by
    rw [hword, hfx]
    exact BitVec.or_zero
  rw [funnel_spec]
  simp only [hw]
  rw [← hfx]
  rfl

end Sys2Proof.Machine
end

section
/-! SUPPORT. How a store begins and where the host can end it: a funneled store after its funnel, another at its first
write (20_memory.md R71, R79; 42_load_store.md R240 to R254; 47_control.md R422, R423; 48_environment.md R452, R455). -/

namespace Sys2Proof.Machine

variable {n : Nat} {m : MemOperand} {s : State} {w : Word} {i : Instr} {e : Ended}

/-! ## The two shapes -/

/-- The operand of a store whose encoder answers no free value (notes/assumptions/9.md). -/
def storeEncodable (i : Instr) (m : MemOperand) (s : State) : Prop :=
  i = .fstpM80real m ∨ s.isEmpty 0 = true ∨ (s.st 0).isUnsupported = false

/-- A funneled store: its computation leaves SW as `w` where `ok` holds, and its commit begins with the write of `n`
bytes. -/
def FunneledStore (n : Nat) (m : MemOperand) (s : State) (w : Word) (ok : Prop) (e : Ended) : Prop :=
  ∃ (u : State) (img : Nat) (k : Addr → State → Ended), Computed s u ∧ (ok → Drains s u w) ∧
    e = memDest m s fun ea => funnel (fun t => (hostWrite n ea img t).andThen (k ea)) u

/-- A store without the funnel: it begins with the write of `n` bytes. -/
def PlainStore (n : Nat) (m : MemOperand) (s : State) (e : Ended) : Prop :=
  ∃ (v : Nat) (k : Addr → State → Ended), e = memDest m s fun ea => (hostWrite n ea v s).andThen (k ea)

theorem funneledStore_real32 (p : Bool) (m : MemOperand) (s : State) :
    FunneledStore 4 m s (real32Out s).2 (s.isEmpty 0 = true ∨ (s.st 0).isUnsupported = false) (storeReal32 p m s) :=
  ⟨_, _, fun _ t => .done (popIf p t), computed_storeImage _ _ computed_encF32 s,
    fun h => (encodes_real32 h).state, rfl⟩

theorem funneledStore_real64 (p : Bool) (m : MemOperand) (s : State) :
    FunneledStore 8 m s (real64Out s).2 (s.isEmpty 0 = true ∨ (s.st 0).isUnsupported = false) (storeReal64 p m s) :=
  ⟨_, _, fun _ t => .done (popIf p t), computed_storeImage _ _ computed_encF64 s,
    fun h => (encodes_real64 h).state, rfl⟩

theorem funneledStore_int (w : IntWidth) (p : Bool) (m : MemOperand) (s : State) :
    FunneledStore w.bytes m s (intOut w.bits s).2 (s.isEmpty 0 = true ∨ (s.st 0).isUnsupported = false)
      (storeInt w p m s) :=
  ⟨_, _, fun _ t => .done (popIf p t), computed_intImage _ s, fun h => (encodes_int _ h).state, rfl⟩

/-- The commit of an 80-bit store begins with the write of its low part (20_memory.md R75). -/
theorem storeCommit80_eq (ea : Addr) (img : Fx80) (p : Bool) (t : State) :
    storeCommit80 ea img p t = (hostWrite 8 ea img.low.toNat t).andThen fun v =>
      (hostWrite 2 (ea + 8) img.high.toNat v).andThen fun x => .done (popIf p x) := andThen_assoc _ _ _

theorem funneledStore_commit80 {u : State} {ok : Prop} (img : Fx80) (hc : Computed s u) (hd : ok → Drains s u w) :
    FunneledStore 8 m s w ok (memDest m s fun ea => funnel (storeCommit80 ea img true) u) := by
  refine ⟨u, img.low.toNat, fun ea v => (hostWrite 2 (ea + 8) img.high.toNat v).andThen fun x => .done (popIf true x),
    hc, hd, congrArg (memDest m s) (funext fun ea => ?_)⟩
  rw [funext (storeCommit80_eq ea img true)]

theorem FunneledStore.mono {ok ok' : Prop} (h : FunneledStore n m s w ok e) (hok : ok' → ok) :
    FunneledStore n m s w ok' e := by
  obtain ⟨u, img, k, hc, hd, he⟩ := h
  exact ⟨u, img, k, hc, hd ∘ hok, he⟩

theorem plainStore_word (v : Word) (m : MemOperand) (s : State) : PlainStore 2 m s (storeWord v m s) :=
  ⟨v.toNat, fun _ => .done, by simp only [storeWord, andThen_return]⟩

/-- The first word of the environment is stored at its base (48_environment.md R450, R452). -/
theorem storeEnv_first (ea : Addr) (s : State) : ∃ k, storeEnv ea s = (hostWrite 2 ea s.cw.toNat s).andThen k := by
  rw [storeEnv, add_envCwOffset, andThen_assoc]
  exact ⟨_, rfl⟩

theorem plainStore_env (m : MemOperand) (s : State) (g : Addr → State → Ended) :
    PlainStore 2 m s (memDest m s fun ea => (storeEnv ea s).andThen (g ea)) := by
  choose k hk using storeEnv_first
  refine ⟨s.cw.toNat, fun ea t => (k ea s t).andThen (g ea), congrArg (memDest m s) (funext fun ea => ?_)⟩
  rw [hk, andThen_assoc]

theorem plainStore_saveState (m : MemOperand) (s : State) :
    PlainStore 2 m s (memDest m s fun ea => saveState ea s) := by
  simp only [saveState, andThen_assoc]
  exact plainStore_env m s _

theorem drains_real80 (s : State) : Drains s (storeImage indef (fun v t => (v, t)) s).2
    (if s.isEmpty 0 then underflowed s.sw else s.sw) := by
  have h := (encodes_real80 s).state
  rwa [apply_ite Prod.snd] at h

/-- The handler of a funneled store. -/
theorem exec_funneledStore (h : i.access = some (true, n, m)) (hw : i.storeWord s = some w) :
    ∃ e, exec i s = finish i e ∧ FunneledStore n m s w (storeEncodable i m s) e := by
  cases i
  case fstM32real | fstpM32real =>
    cases h; cases hw
    exact ⟨_, rfl, (funneledStore_real32 _ _ s).mono fun hok => hok.resolve_left nofun⟩
  case fstM64real | fstpM64real =>
    cases h; cases hw
    exact ⟨_, rfl, (funneledStore_real64 _ _ s).mono fun hok => hok.resolve_left nofun⟩
  case fistM16int | fistpM16int =>
    cases h; cases hw
    exact ⟨_, rfl, (funneledStore_int .w16 _ _ s).mono fun hok => hok.resolve_left nofun⟩
  case fistM32int | fistpM32int =>
    cases h; cases hw
    exact ⟨_, rfl, (funneledStore_int .w32 _ _ s).mono fun hok => hok.resolve_left nofun⟩
  case fistpM64int =>
    cases h; cases hw
    exact ⟨_, rfl, (funneledStore_int .w64 _ _ s).mono fun hok => hok.resolve_left nofun⟩
  case fstpM80real =>
    cases h; cases hw
    exact ⟨_, rfl, funneledStore_commit80 _ (computed_storeImage _ _ (fun _ t => .refl t) s) fun _ =>
      drains_real80 s⟩
  case fbstp =>
    cases h; cases hw
    exact ⟨_, rfl, funneledStore_commit80 _ (computed_storeImage _ _ computed_bcdImage s) fun hok =>
      (encodes_bcd (hok.resolve_left nofun)).state⟩
  case fstcw | fstswM16 | fstenv | fsave => cases hw
  all_goals cases h

/-- The handler of another store. -/
theorem exec_plainStore (h : i.access = some (true, n, m)) (hw : i.storeWord s = none) :
    ∃ e, exec i s = finish i e ∧ PlainStore n m s e := by
  cases i
  case fstcw | fstswM16 =>
    cases h
    exact ⟨_, rfl, plainStore_word _ _ s⟩
  case fstenv =>
    cases h
    exact ⟨_, rfl, plainStore_env _ s _⟩
  case fsave =>
    cases h
    exact ⟨_, rfl, plainStore_saveState _ s⟩
  case fstM32real | fstpM32real | fistM32int | fistpM32int | fstpM80real | fstM64real | fstpM64real | fistM16int
    | fistpM16int | fbstp | fistpM64int => cases hw
  all_goals cases h

/-! ## Where the host ends a store -/

theorem memDest_refused (h : s.guarded (.getEa true) m.ea 1 = true) (k : Addr → Ended) :
    memDest m s k = .abort { s with hostFault := some ⟨.getEa true, m.ea⟩ } := getEa_refused h k

/-- Every store begins with `GetEA`. -/
theorem exec_store_getEa (h : i.access = some (true, n, m)) : ∃ k, exec i s = finish i (memDest m s k) := by
  cases hw : i.storeWord s with
  | some w =>
    obtain ⟨_, he, _, _, _, _, _, rfl⟩ := exec_funneledStore h hw
    exact ⟨_, he⟩
  | none =>
    obtain ⟨_, he, _, _, rfl⟩ := exec_plainStore h hw
    exact ⟨_, he⟩

variable (hea : s.guarded (.getEa true) m.ea 1 = false)

include hea

/-- The first write of a store without the funnel, ended: nothing has changed. -/
theorem PlainStore.refused (h : PlainStore n m s e) (hg : s.guarded .write m.ea n = true) :
    finish i e = .next { s with hostFault := some ⟨.write, m.ea⟩ } := by
  obtain ⟨v, k, rfl⟩ := h
  rw [memDest_open _ _ _ hea, hostWrite_refused hg, andThen_abort, finish_abort]

/-- The first write of a funneled store, ended: stack and memory are as they were. -/
theorem FunneledStore.refused_kept {ok : Prop} (h : FunneledStore n m s w ok e) (hg : s.guarded .write m.ea n = true) :
    ∃ t, finish i e = .next t ∧ StackKept s t ∧ t.mem = s.mem := by
  obtain ⟨u, img, k, hc, _, rfl⟩ := h
  rw [memDest_open _ _ _ hea]
  obtain ⟨v, hk, hm, hgu, ⟨_, hf⟩ | ⟨_, hf⟩⟩ := funnel_outcome hc fun t => (hostWrite n m.ea img t).andThen (k m.ea)
  · rw [hf, hostWrite_refused ((guarded_congr s v hgu _ _ _).trans hg), andThen_abort, finish_abort]
    exact ⟨_, rfl, ⟨hk.regs, hk.tw, hk.top, hk.cw, hk.word⟩, hm⟩
  · rw [hf, finish_afterRequest]
    obtain ⟨c, hc⟩ := afterTrap_eq i v
    rw [hc]
    exact ⟨_, rfl, ⟨hk.regs, hk.tw, hk.top, hk.cw, hk.word⟩, hm⟩

/-- A funneled store with an unmasked exception pending makes no write (40_kernel_and_protocol.md R172). -/
theorem FunneledStore.pending {ok : Prop} (h : FunneledStore n m s w ok e) (hok : ok) (hfx : s.fx = KFlags.empty)
    (hp : pendingOf s.cw w ≠ 0#6) : finish i e = .next (afterTrap i (suppressed s w)) := by
  obtain ⟨u, img, k, _, hd, rfl⟩ := h
  rw [memDest_open _ _ _ hea, (hd hok).funnel hfx, if_neg hp, finish_afterRequest]

/-- The first write of a funneled store, ended: the latches of the instruction stay, with ES clear. -/
theorem FunneledStore.refused {ok : Prop} (h : FunneledStore n m s w ok e) (hok : ok) (hfx : s.fx = KFlags.empty)
    (hp : pendingOf s.cw w = 0#6) (hg : s.guarded .write m.ea n = true) :
    finish i e = .next { s with sw := w &&& 0xFF7F#16, hostFault := some ⟨.write, m.ea⟩ } := by
  obtain ⟨u, img, k, _, hd, rfl⟩ := h
  rw [memDest_open _ _ _ hea, (hd hok).funnel hfx, if_pos hp, hostWrite_refused (by exact hg), andThen_abort,
    finish_abort]

omit hea

/-! ## The second write of an 80-bit store -/

/-- The second write of an 80-bit store, ended: the low part is stored, and the pop has not happened. -/
theorem storeCommit80_refused {a : Addr} (img : Fx80) (p : Bool) (h : s.guarded .write a 8 = false)
    (h2 : s.guarded .write (a + 8) 2 = true) :
    storeCommit80 a img p s =
      .abort { s with mem := s.mem.writeLE 8 a img.low.toNat, hostFault := some ⟨.write, a + 8⟩ } := by
  rw [storeCommit80_eq, hostWrite_open h, andThen_done, hostWrite_refused (by exact h2), andThen_abort]

/-- The same after the funnel, whatever it finds. -/
theorem funnel_storeCommit80_refused {u : State} {a : Addr} (i : Instr) (img : Fx80) (hc : Computed s u)
    (h : s.guarded .write a 8 = false) (h2 : s.guarded .write (a + 8) 2 = true) :
    ∃ t, finish i (funnel (storeCommit80 a img true) u) = .next t ∧ StackKept s t ∧
      (pendingOf t.cw t.sw ≠ 0#6 → t.mem = s.mem) ∧
      (pendingOf t.cw t.sw = 0#6 → t.hostFault = some ⟨.write, a + 8⟩ ∧ t.mem = s.mem.writeLE 8 a img.low.toNat) := by
  obtain ⟨v, hk, hm, hgu, ⟨hp, hf⟩ | ⟨hp, hf⟩⟩ := funnel_outcome hc (storeCommit80 a img true)
  · have hg (acc : Access) (b : Addr) (n : Nat) := guarded_congr s v hgu acc b n
    rw [hf, storeCommit80_refused img true ((hg _ _ _).trans h) ((hg _ _ _).trans h2), finish_abort]
    exact ⟨_, rfl, ⟨hk.regs, hk.tw, hk.top, hk.cw, hk.word⟩, fun hne => absurd hp hne, fun _ => ⟨rfl, by rw [hm]⟩⟩
  · rw [hf, finish_afterRequest]
    obtain ⟨c, hc⟩ := afterTrap_eq i v
    rw [hc]
    exact ⟨_, rfl, ⟨hk.regs, hk.tw, hk.top, hk.cw, hk.word⟩, fun _ => hm, fun h0 => absurd h0 hp⟩


end Sys2Proof.Machine
end

section
/-! SUPPORT. Where the host ends the writes of `FSTENV` and `FSAVE`, and what stands in memory then (48_environment.md
R452, R454, R455; 20_memory.md R79). -/

namespace Sys2Proof.Machine

variable {m : MemOperand} {s : State}

/-! ## The words of the environment -/

theorem cwItem_allowed (ea : Addr) (s : State) : (cwItem s).allowed ea s ↔ s.guarded .write ea 2 = false := by
  rw [Item.allowed, cwItem_address]
  rfl

theorem swItem_allowed (ea : Addr) (s : State) :
    (swItem s).allowed ea s ↔ s.guarded .write (ea + s.envSwOffset) 2 = false := by
  rw [Item.allowed, swItem_address]
  rfl

theorem twItem_allowed (ea : Addr) (s : State) :
    (twItem s).allowed ea s ↔ s.guarded .write (ea + s.envTwOffset) 2 = false := by
  rw [Item.allowed, twItem_address]
  rfl

theorem exec_fsave (hea : s.guarded (.getEa true) m.ea 1 = false) :
    exec (.fsave m) s = finish (.fsave m) ((hostStores m.ea (saveItems s) s).andThen fun t =>
      .done (if t.params.fsaveReinit then initFpu t else t)) := by
  have he : exec (.fsave m) s = finish (.fsave m) (memDest m s fun ea => saveState ea s) := rfl
  rw [he, memDest_open _ _ _ hea, saveState_eq]

theorem exec_fstenv (hea : s.guarded (.getEa true) m.ea 1 = false) :
    exec (.fstenv m) s = finish (.fstenv m) ((hostStores m.ea (envItems s) s).andThen fun t => .done (maskAll t)) := by
  have he : exec (.fstenv m) s =
    finish (.fstenv m) (memDest m s fun ea => (storeEnv ea s).andThen fun t => .done (maskAll t)) := rfl
  rw [he, memDest_open _ _ _ hea, storeEnv_eq]

/-- `FSAVE` ended in one of its writes: those before it stand, and nothing else has changed. -/
theorem exec_fsave_refused {before after : List Item} {x : Item} (hea : s.guarded (.getEa true) m.ea 1 = false)
    (hs : saveItems s = before ++ x :: after) (hb : ∀ y ∈ before, y.allowed m.ea s)
    (hx : s.guarded .write (x.address m.ea) x.width = true) :
    exec (.fsave m) s = .next { s with
      mem := storeItems m.ea before s.mem, hostFault := some ⟨.write, x.address m.ea⟩ } := by
  rw [exec_fsave hea, hs, hostStores_refused hb hx, andThen_abort, finish_abort]

/-- `FSTENV` and `FSAVE` ended in a write of the environment words, which both begin with. -/
theorem exec_storeEnv_refused {i : Instr} {before after : List Item} {x : Item} (hi : i = .fstenv m ∨ i = .fsave m)
    (hea : s.guarded (.getEa true) m.ea 1 = false) (hs : envItems s = before ++ x :: after)
    (hb : ∀ y ∈ before, y.allowed m.ea s) (hx : s.guarded .write (x.address m.ea) x.width = true) :
    exec i s = .next { s with
      mem := storeItems m.ea before s.mem, hostFault := some ⟨.write, x.address m.ea⟩ } := by
  rcases hi with rfl | rfl
  · rw [exec_fstenv hea, hs, hostStores_refused hb hx, andThen_abort, finish_abort]
  · refine exec_fsave_refused (after := after ++ stackIndices.flatMap (imageItems s)) hea ?_ hb hx
    rw [saveItems, hs, List.append_assoc, List.cons_append]

/-- `FSTENV` and `FSAVE` ended in their second write: CW is stored. -/
theorem exec_storeEnv_second_refused {i : Instr} (hi : i = .fstenv m ∨ i = .fsave m)
    (hea : s.guarded (.getEa true) m.ea 1 = false) (h : s.guarded .write m.ea 2 = false)
    (h2 : s.guarded .write (m.ea + s.envSwOffset) 2 = true) :
    exec i s = .next { s with
      mem := s.mem.writeLE 2 m.ea s.cw.toNat, hostFault := some ⟨.write, m.ea + s.envSwOffset⟩ } := by
  have hr := exec_storeEnv_refused (before := [cwItem s]) (x := swItem s) hi hea rfl
    (List.forall_mem_singleton.mpr ((cwItem_allowed _ s).mpr h)) (by rw [swItem_address]; exact h2)
  rw [swItem_address, storeItems, storeItems, cwItem_address] at hr
  exact hr

/-- `FSTENV` and `FSAVE` ended in their third write: CW and SW are stored. -/
theorem exec_storeEnv_third_refused {i : Instr} (hi : i = .fstenv m ∨ i = .fsave m)
    (hea : s.guarded (.getEa true) m.ea 1 = false) (h : s.guarded .write m.ea 2 = false)
    (h2 : s.guarded .write (m.ea + s.envSwOffset) 2 = false) (h3 : s.guarded .write (m.ea + s.envTwOffset) 2 = true) :
    exec i s = .next { s with
      mem := (s.mem.writeLE 2 m.ea s.cw.toNat).writeLE 2 (m.ea + s.envSwOffset) s.sw.toNat,
      hostFault := some ⟨.write, m.ea + s.envTwOffset⟩ } := by
  have hb : ∀ y ∈ [cwItem s, swItem s], y.allowed m.ea s :=
    List.forall_mem_cons.mpr ⟨(cwItem_allowed _ s).mpr h, List.forall_mem_singleton.mpr ((swItem_allowed _ s).mpr h2)⟩
  have hr := exec_storeEnv_refused (before := [cwItem s, swItem s]) (x := twItem s) hi hea rfl hb
    (by rw [twItem_address]; exact h3)
  rw [twItem_address, storeItems, storeItems, storeItems, cwItem_address, swItem_address] at hr
  exact hr

/-! ## The register images -/

/-- A byte of the save area belongs to a word of the environment or lies behind its block. -/
theorem saveItems_covers {x : Item} {d : Nat} (hx : x ∈ saveItems s) (hd : x.covers d) :
    isEnvWordByte s.opsize32 d = true ∨ s.envSize ≤ d := by
  rcases List.mem_append.mp hx with hx | hx
  · exact .inl (envItems_covers hx hd)
  · obtain ⟨i, _, hx⟩ := List.mem_flatMap.mp hx
    have hb := imageItems_bound hx
    have hlo := hd.1
    exact .inr (by omega)

/-- The items before the image of ST(j). -/
def itemsBefore (s : State) (j : Slot) : List Item :=
  envItems s ++ (stackIndices.filter (· < j)).flatMap (imageItems s)

theorem saveItems_split (s : State) (j : Slot) : ∃ after,
    saveItems s = itemsBefore s j ++ lowItem s j :: highItem s j :: after := by
  refine ⟨(stackIndices.filter (j < ·)).flatMap (imageItems s), ?_⟩
  conv => lhs; rw [saveItems, stackIndices_split j]
  rw [List.flatMap_append, List.flatMap_cons, imageItems, itemsBefore, List.append_assoc]
  rfl

/-- The host ends `FSAVE` at the item `x` of the image of ST(j), after the items `before`. -/
structure EndsSaveAt (s : State) (ea : Addr) (j : Slot) (before : List Item) (x : Item) : Prop where
  split : ∃ after, saveItems s = before ++ x :: after
  allowed : ∀ y ∈ before, y.allowed ea s
  refused : s.guarded .write (x.address ea) x.width = true
  includes : ∀ y ∈ itemsBefore s j, y ∈ before
  low : x.address ea = s.imageAddr ea j + 8 → lowItem s j ∈ before

theorem itemsBefore_allowed {ea a : Addr} {j : Slot} (h : s.endsAtImage .write ea j a) :
    ∀ y ∈ itemsBefore s j, y.allowed ea s := by
  obtain ⟨hcw, hsw, htw, hbefore, _⟩ := h
  rw [envSwOffset_def] at hsw htw
  rw [← envTwOffset_eq] at htw
  intro y hy
  rcases List.mem_append.mp hy with hy | hy
  · simp only [envItems, List.mem_cons, List.not_mem_nil, or_false] at hy
    rcases hy with rfl | rfl | rfl
    · exact (cwItem_allowed ea s).mpr hcw
    · exact (swItem_allowed ea s).mpr hsw
    · exact (twItem_allowed ea s).mpr htw
  · obtain ⟨k, hk, hy⟩ := List.mem_flatMap.mp hy
    obtain ⟨hlow, hhigh⟩ := hbefore k ((mem_stackIndices_below j k).mp hk)
    simp only [imageItems, List.mem_cons, List.not_mem_nil, or_false] at hy
    rcases hy with rfl | rfl
    · exact hlow
    · rw [Item.allowed, highItem_address]
      exact hhigh

theorem endsSaveAt_of_endsAtImage {ea a : Addr} {j : Slot} (h : s.endsAtImage .write ea j a) :
    ∃ before x, x.address ea = a ∧ EndsSaveAt s ea j before x := by
  have hopen := itemsBefore_allowed h
  obtain ⟨after, hs⟩ := saveItems_split s j
  obtain ⟨_, _, _, _, ⟨rfl, hg⟩ | ⟨rfl, hlow, hg⟩⟩ := h
  · refine ⟨itemsBefore s j, lowItem s j, rfl, ⟨_, hs⟩, hopen, hg, fun _ hy => hy, fun he => ?_⟩
    rw [lowItem_address] at he
    bv_omega
  · refine ⟨itemsBefore s j ++ [lowItem s j], highItem s j, highItem_address ea s j, ⟨after, ?_⟩, fun y hy => ?_, ?_,
      fun y hy => List.mem_append_left _ hy, fun _ => by simp⟩
    · rw [hs, List.append_assoc, List.singleton_append]
    · rcases List.mem_append.mp hy with hy | hy
      · exact hopen y hy
      · rw [List.mem_singleton.mp hy]
        exact hlow
    · rw [highItem_address]
      exact hg

namespace EndsSaveAt

variable {ea : Addr} {j : Slot} {before : List Item} {x : Item} (h : EndsSaveAt s ea j before x)

include h

theorem laid : Laid before := by
  obtain ⟨after, hs⟩ := h.split
  exact (laid_saveItems s).sublist (hs ▸ List.sublist_append_left _ _)

/-- The items stored lie below the one refused. -/
theorem below {y : Item} (hy : y ∈ before) : y.offset + y.width ≤ x.offset := by
  obtain ⟨after, hs⟩ := h.split
  have hp := (laid_saveItems s).1
  rw [hs] at hp
  obtain ⟨_, _, hcross⟩ := List.pairwise_append.mp hp
  exact hcross y hy x List.mem_cons_self

theorem address_sub : (x.address ea - ea).toNat = x.offset := by
  obtain ⟨after, hs⟩ := h.split
  have hx : x ∈ saveItems s := hs ▸ List.mem_append_right _ List.mem_cons_self
  have hf := (laid_saveItems s).2 x hx
  have he : x.address ea - ea = BitVec.ofNat 32 x.offset := by
    rw [Item.address, BitVec.add_comm, BitVec.add_sub_cancel]
  rw [he, BitVec.toNat_ofNat, Nat.mod_eq_of_lt (by omega)]

/-- A byte from the refused item on, or of the environment block but of none of its words, is as before. -/
theorem read_outside (mem : Memory) {b : Addr} (hb : (x.address ea - ea).toNat ≤ (b - ea).toNat ∨
    ((b - ea).toNat < s.envSize ∧ isEnvWordByte s.opsize32 (b - ea).toNat = false)) :
    (storeItems ea before mem).read b = mem.read b := by
  refine storeItems_read_outside ea b before mem h.laid.2 fun y hy hcov => ?_
  rcases hb with hb | ⟨hlt, hword⟩
  · rw [h.address_sub] at hb
    have hbelow := h.below hy
    exact absurd hcov.2 (by omega)
  · obtain ⟨after, hs⟩ := h.split
    rcases saveItems_covers (hs ▸ List.mem_append_left _ hy) hcov with he | he
    · rw [hword] at he
      cases he
    · omega

end EndsSaveAt

end Sys2Proof.Machine
end

section
/-! The statements of 20_memory.md: items in memory, and what stands where the host ends an access (R72, R79). -/

namespace Sys2Proof.Machine

/-! ## Items in memory and the environment words -/

theorem exec_fstenv_open (m : MemOperand) {s : State} (hg : s.guards = []) :
    exec (.fstenv m) s =
      .next (charged (.fstenv m) (maskAll { s with mem := storeItems m.ea (envItems s) s.mem })) := by
  rw [exec_fstenv (guarded_nil s hg _ _ _), hostStores_open fun _ _ => guarded_nil s hg _ _ _, andThen_done, finish_done]

theorem exec_fldenv_open (m : MemOperand) {s : State} (hg : s.guards = []) :
    exec (.fldenv m) s = .next (charged (.fldenv m) (envLoaded m.ea s)) := by
  rw [exec_fldenv (guarded_nil s hg _ _ _), loadEnv_open m.ea hg, finish_done]

/-- The masking of `FSTENV` touches CW, and RM with it, where the parameter says so (48_environment.md R452). -/
theorem maskAll_eq (s : State) : maskAll s = { s with cw := (maskAll s).cw, rm := (maskAll s).rm } := by
  unfold maskAll
  split <;> rfl

/-- Settles O55: items byte by byte, `FSTENV` as the block of its three items, `FLDENV` read off `envLoaded`. -/
theorem environmentWords : Obligations.EnvironmentWords := by
  refine ⟨fun mem n v a hn => ⟨mem.readLE_eq_sum n a, fun k hk => mem.read_writeLE_inside a v (by omega) hk,
    fun b hb => mem.read_writeLE_outside n a b v (by omega) hb⟩, fun m s hg => ?_⟩
  simp only [envSwOffset_def]
  constructor
  · let mem := storeItems m.ea (envItems s) s.mem
    let t := maskAll { s with mem := mem }
    obtain ⟨hcw, hsw, htw⟩ := envItems_readLE s.mem (laid_envItems s) fun _ h => h
    refine ⟨mem, t.cw, t.rm, ?_, fun h => ?_, fun h => ?_, hcw, hsw, htw, fun a ha => ?_⟩
    · rw [exec_fstenv_open m hg, maskAll_eq]
    · simp [t, maskAll, h]
    · simp [t, maskAll, h, writeCw]
    · refine storeItems_read_outside m.ea a _ _ (laid_envItems s).2 fun x hx hcov => ?_
      rw [envItems_covers hx hcov] at ha
      cases ha
  · rintro _ rfl
    rw [exec_fldenv_open m hg, envLoaded, add_envCwOffset, envTwOffset_eq]
    rfl

/-! ## A read the host ends -/

/-- `FRSTOR` ended in the image of ST(j): the words and the images before it are installed (48_environment.md R456). -/
theorem exec_frstor_refused {m : MemOperand} {s : State} {j : Slot} {a : Addr}
    (hea : s.guarded (.getEa false) m.ea 1 = false) (h : s.endsAtImage .read m.ea j a) :
    exec (.frstor m) s = .next { installImages m.ea (stackIndices.filter (· < j)) (envLoaded m.ea s) with
      hostFault := some ⟨.read, a⟩ } := by
  obtain ⟨hcw, hsw, htw, hbefore, ha⟩ := h
  rw [envSwOffset_def] at hsw htw
  rw [← envTwOffset_eq] at htw
  have hrest : restoreRegs m.ea stackIndices (envLoaded m.ea s) =
      .abort { installImages m.ea (stackIndices.filter (· < j)) (envLoaded m.ea s) with
        hostFault := some ⟨.read, a⟩ } := by
    conv => lhs; rw [stackIndices_split j]
    exact restoreRegs_refused (fun i hi => hbefore i ((mem_stackIndices_below j i).mp hi)) ha
  rw [exec_frstor hea, loadEnv_allowed hcw hsw htw, andThen_done, hrest, finish_abort]

/-- What the second read of an 80-bit operand finds (20_memory.md R75). -/
theorem exec_read80_second_refused {i : Instr} {m : MemOperand} {s : State} (hi : i = .fldM80real m ∨ i = .fbld m)
    (hea : s.guarded (.getEa false) m.ea 1 = false) (h : s.guarded .read m.ea 8 = false)
    (h2 : s.guarded .read (m.ea + 8) 2 = true) :
    exec i s = .next { s with hostFault := some ⟨.read, m.ea + 8⟩ } := by
  have hrefused (k : Fx80 → Ended) :
      finish i (memSource80 m s k) = .next { s with hostFault := some ⟨.read, m.ea + 8⟩ } := by
    rw [memSource80, getEa_open hea, hostRead80_refused k (.inr ⟨rfl, h, h2⟩), finish_abort]
  rcases hi with rfl | rfl
  · exact hrefused _
  · exact hrefused _

/-- Settles O18: `GetEA` and a first access by the beginning of the handler, a later read by what is installed before
it. -/
theorem hostFaultOnReadLeavesBlock : Obligations.HostFaultOnReadLeavesBlock := by
  intro i s b n m hacc
  simp only [envSwOffset_def]
  refine ⟨fun hea => ?_, ?_, fun hi hea h h2 => exec_read80_second_refused hi hea h h2, fun hi hea h => ⟨fun h2 => ?_,
    fun h2 h3 => ?_⟩, ?_⟩
  · cases b with
    | false =>
      obtain ⟨e, he, hr⟩ := exec_reads s hacc
      exact he.trans (hr.refused.1 hea)
    | true =>
      obtain ⟨k, he⟩ := exec_store_getEa (s := s) hacc
      rw [he, memDest_refused hea, finish_abort]
  · rintro rfl hea h
    obtain ⟨e, he, hr⟩ := exec_reads s hacc
    exact he.trans (hr.refused.2 hea h)
  · exact exec_loadEnv_aborted hi hea (loadEnv_second_refused h h2)
  · rw [← envTwOffset_eq] at h3 ⊢
    exact exec_loadEnv_aborted hi hea (loadEnv_third_refused h h2 h3)
  · rintro rfl hea j a h
    let u := envLoaded m.ea s
    let t := installImages m.ea (stackIndices.filter (· < j)) u
    refine ⟨t.regs, t.tw, ?_, fun k => ?_⟩
    · rw [exec_frstor_refused hea h, installImages_rest]
      simp only [t, u, envLoaded, writeCw, add_envCwOffset]
    · have hreg := installImages_reg (ea := m.ea) (stackIndices.filter (· < j)) u k
      have htag := installImages_tag (ea := m.ea) (stackIndices.filter (· < j)) u k
      simp only [mem_stackIndices_below, isEmpty_iff] at hreg htag
      simp only [← envTwOffset_eq]
      by_cases hk : k < j
      · rw [if_pos hk] at hreg htag ⊢
        exact ⟨hreg, htag⟩
      · rw [if_neg hk] at hreg htag ⊢
        exact ⟨hreg, htag⟩

/-! ## A write the host ends -/

/-- An 80-bit store ended in its second write, with the image it was storing. -/
theorem exec_store80_refused {i : Instr} {m : MemOperand} {s : State} (hi : i = .fstpM80real m ∨ i = .fbstp m)
    (hea : s.guarded (.getEa true) m.ea 1 = false) (h : s.guarded .write m.ea 8 = false)
    (h2 : s.guarded .write (m.ea + 8) 2 = true) :
    ∃ (t : State) (img : Fx80), exec i s = .next t ∧ StackKept s t ∧
      (pendingOf t.cw t.sw ≠ 0#6 → t.mem = s.mem) ∧
      (pendingOf t.cw t.sw = 0#6 →
        t.hostFault = some ⟨.write, m.ea + 8⟩ ∧ t.mem = s.mem.writeLE 8 m.ea img.low.toNat) ∧
      (i = .fstpM80real m → img = if s.isEmpty 0 then indef else s.st 0) ∧
      (i = .fbstp m → s.isEmpty 0 = true ∨ (s.st 0).isUnsupported = false → img = (bcdOut s).1) := by
  rcases hi with rfl | rfl
  · let r := storeImage indef (fun v t => (v, t)) s
    have he : exec (.fstpM80real m) s =
      finish (.fstpM80real m) (memDest m s fun ea => funnel (storeCommit80 ea r.1 true) r.2) := rfl
    have hc : Computed s r.2 := computed_storeImage _ _ (fun _ t => .refl t) s
    obtain ⟨t, ht, hk, hp, hn⟩ := funnel_storeCommit80_refused (.fstpM80real m) r.1 hc h h2
    refine ⟨t, r.1, ?_, hk, hp, hn, fun _ => ?_, nofun⟩
    · rw [he, memDest_open _ _ _ hea, ht]
    · rw [(encodes_real80 s).image, apply_ite Prod.fst]
  · let r := storeImage bcdIndefinite bcdImage s
    have he : exec (.fbstp m) s =
      finish (.fbstp m) (memDest m s fun ea => funnel (storeCommit80 ea r.1 true) r.2) := rfl
    have hc : Computed s r.2 := computed_storeImage _ _ computed_bcdImage s
    obtain ⟨t, ht, hk, hp, hn⟩ := funnel_storeCommit80_refused (.fbstp m) r.1 hc h h2
    refine ⟨t, r.1, ?_, hk, hp, hn, nofun, fun _ hok => (encodes_bcd hok).image⟩
    rw [he, memDest_open _ _ _ hea, ht]

/-- The same with nothing pending before and after the computation: the latches of the instruction stay. -/
theorem exec_store80_refused_word {i : Instr} {m : MemOperand} {s : State} {w : Word}
    (hi : i = .fstpM80real m ∨ i = .fbstp m) (hw : i.storeWord s = some w) (hok : storeEncodable i m s)
    (hfx : s.fx = KFlags.empty) (hp : pendingOf s.cw w = 0#6) (hea : s.guarded (.getEa true) m.ea 1 = false)
    (h : s.guarded .write m.ea 8 = false) (h2 : s.guarded .write (m.ea + 8) 2 = true) :
    ∃ mem, exec i s = .next { s with
      sw := w &&& 0xFF7F#16, mem := mem, hostFault := some ⟨.write, m.ea + 8⟩ } := by
  have hrefused {u : State} (img : Fx80) (hd : Drains s u w) :
      finish i (memDest m s fun ea => funnel (storeCommit80 ea img true) u) = .next { s with
        sw := w &&& 0xFF7F#16, mem := s.mem.writeLE 8 m.ea img.low.toNat, hostFault := some ⟨.write, m.ea + 8⟩ } := by
    rw [memDest_open _ _ _ hea, hd.funnel hfx, if_pos hp, storeCommit80_refused img true (by exact h) (by exact h2),
      finish_abort]
  rcases hi with rfl | rfl
  · cases hw
    exact ⟨_, hrefused (storeImage indef (fun v t => (v, t)) s).1 (drains_real80 s)⟩
  · cases hw
    exact ⟨_, hrefused (storeImage bcdIndefinite bcdImage s).1 (encodes_bcd (hok.resolve_left nofun)).state⟩

/-- The first write of any store, ended: stack and memory are as they were. -/
theorem exec_store_refused_kept {i : Instr} {n : Nat} {m : MemOperand} {s : State}
    (hacc : i.access = some (true, n, m)) (hea : s.guarded (.getEa true) m.ea 1 = false)
    (hg : s.guarded .write m.ea n = true) : ∃ t, exec i s = .next t ∧ StackKept s t ∧ t.mem = s.mem := by
  cases hw : i.storeWord s with
  | some w =>
    obtain ⟨e, he, hst⟩ := exec_funneledStore hacc hw
    rw [he]
    exact hst.refused_kept hea hg
  | none =>
    obtain ⟨e, he, hst⟩ := exec_plainStore hacc hw
    rw [he, hst.refused hea hg]
    exact ⟨_, rfl, ⟨rfl, rfl, rfl, rfl, rfl⟩, rfl⟩

/-- Settles O19: a store by its shape, funneled or not; `FSAVE` by the items before the refused one. -/
theorem hostFaultOnWriteKeepsStack : Obligations.HostFaultOnWriteKeepsStack := by
  intro i s n m hacc hea
  simp only [envSwOffset_def]
  refine ⟨fun hg => ?_, fun hi h h2 => ?_, fun w hw hfx hok => ?_, fun hw hg => ?_,
    fun hi h => ⟨fun h2 => exec_storeEnv_second_refused hi hea h h2, fun h2 h3 => ?_⟩, ?_⟩
  · obtain ⟨t, ht, hk, hm⟩ := exec_store_refused_kept hacc hea hg
    exact ⟨t, ht, hk.regs, hk.tw, hk.top, hk.cw, hm, hk.word⟩
  · obtain ⟨t, img, ht, hk, hp, hn, hreal, hbcd⟩ := exec_store80_refused hi hea h h2
    refine ⟨t, ht, hk.regs, hk.tw, hk.top, hk.cw, hk.word, hp, fun h0 => ?_⟩
    obtain ⟨hf, hm⟩ := hn h0
    exact ⟨hf, img.low.toNat, hm, fun hi => by rw [hreal hi], fun hi hok => by rw [hbcd hi hok]⟩
  · obtain ⟨e, he, hst⟩ := exec_funneledStore hacc hw
    exact ⟨fun hp => he.trans (hst.pending hea hok hfx hp), fun hp hg => he.trans (hst.refused hea hok hfx hp hg),
      fun hp hi h h2 => exec_store80_refused_word hi hw hok hfx hp hea h h2⟩
  · obtain ⟨e, he, hst⟩ := exec_plainStore hacc hw
    exact he.trans (hst.refused hea hg)
  · rw [← envTwOffset_eq] at h3 ⊢
    exact exec_storeEnv_third_refused hi hea h h2 h3
  · rintro rfl j a h
    obtain ⟨before, x, rfl, hx⟩ := endsSaveAt_of_endsAtImage h
    obtain ⟨after, hs⟩ := hx.split
    obtain ⟨hcw, hsw, htw⟩ := envItems_readLE s.mem hx.laid fun y hy => hx.includes y (List.mem_append_left _ hy)
    refine ⟨storeItems m.ea before s.mem, exec_fsave_refused hea hs hx.allowed hx.refused, hcw, hsw, htw,
      fun k hk => ?_, fun ha => lowItem_readLE s.mem hx.laid (hx.low ha), fun b hb => hx.read_outside s.mem hb⟩
    refine imageItems_read80 s.mem hx.laid fun y hy => hx.includes y (List.mem_append_right _ ?_)
    exact List.mem_flatMap.mpr ⟨k, (mem_stackIndices_below j k).mpr hk, hy⟩

end Sys2Proof.Machine
end

section
/-! SUPPORT. The bytes of an encoding and what the dispatch tables hold, each said once: how a ModR/M byte splits into
its fields, what the decoder answers on a memory form and on a register form, which entry of the tables an instruction
is, and which entries hold none (30_encoding.md R100 to R114). -/

namespace Sys2Proof.Machine

/-! ## The fields of the two bytes -/

theorem modrm_eq_append (modrm : Byte) :
    modrm = modrm.extractLsb' 6 2 ++ modrm.extractLsb' 3 3 ++ modrm.extractLsb' 0 3 := by
  revert modrm; decide

theorem modrm_mod (mod : BitVec 2) (reg rm : BitVec 3) : (mod ++ reg ++ rm).extractLsb' 6 2 = mod := by
  revert mod reg rm; decide

theorem modrm_reg (mod : BitVec 2) (reg rm : BitVec 3) : (mod ++ reg ++ rm).extractLsb' 3 3 = reg := by
  revert mod reg rm; decide

theorem modrm_rm (mod : BitVec 2) (reg rm : BitVec 3) : (mod ++ reg ++ rm).extractLsb' 0 3 = rm := by
  revert mod reg rm; decide

/-- The selector of a memory form, as R114 counts it. -/
theorem modrm_reg_toNat (mod : BitVec 2) (reg rm : BitVec 3) : (mod ++ reg ++ rm).toNat / 8 % 8 = reg.toNat := by
  revert mod reg rm; decide

/-- An escape byte that names a group is the one of that group. -/
theorem eq_escByte_of_groupOf {esc : Byte} {g : BitVec 3} (h : groupOf esc = some g) : esc = escByte g := by
  revert esc g; decide

/-! ## The decoder on each of the two forms -/

theorem decode_escByte (g : BitVec 3) (modrm : Byte) (ea : Addr) :
    decode ⟨escByte g, modrm, ea⟩ = (dispatch g modrm ea).elim (.reject (.fatalDecode g modrm)) .instr := by
  simp only [decode, Laws.groupOf_escByte]
  cases dispatch g modrm ea <;> rfl

theorem decode_of_dispatch {g : BitVec 3} {modrm : Byte} {ea : Addr} {i : Instr} (h : dispatch g modrm ea = some i) :
    decode ⟨escByte g, modrm, ea⟩ = .instr i := by
  rw [decode_escByte, h, Option.elim_some]

theorem decode_eq_fatalDecode_iff (g : BitVec 3) (modrm : Byte) (ea : Addr) :
    decode ⟨escByte g, modrm, ea⟩ = .reject (.fatalDecode g modrm) ↔ (dispatch g modrm ea).isNone = true := by
  rw [decode_escByte]
  cases dispatch g modrm ea with
  | none => exact ⟨fun _ => rfl, fun _ => rfl⟩
  | some i => exact ⟨nofun, nofun⟩

theorem dispatch_mem {mod : BitVec 2} (h : mod ≠ 3#2) (g reg rm : BitVec 3) (ea : Addr) :
    dispatch g (mod ++ reg ++ rm) ea = dispatchMem g reg ⟨mod, rm, ea⟩ := by
  simp only [dispatch, modrm_mod, modrm_reg, modrm_rm, if_neg h]

theorem dispatch_reg (g row i : BitVec 3) (ea : Addr) : dispatch g (3#2 ++ row ++ i) ea = dispatchReg g row i := by
  simp only [dispatch, modrm_mod, modrm_reg, modrm_rm, if_true]

/-- What decodes comes from an entry of a table, by the escape byte and the ModR/M byte. -/
theorem dispatch_of_decode {x : Located} {i : Instr} (h : decode x = .instr i) :
    ∃ g, x.esc = escByte g ∧ dispatch g x.modrm x.ea = some i := by
  unfold decode at h
  split at h
  · cases h
  · next g hg =>
    split at h
    · next j hj => cases h; exact ⟨g, eq_escByte_of_groupOf hg, hj⟩
    · cases h

/-! ## The entry an instruction is -/

/-- The instruction is the entry of the memory tables at `(g, reg)`, with the operand `m`. -/
structure MemEntry (i : Instr) (g reg : BitVec 3) (m : MemOperand) : Prop where
  encoded : encode i = encodeMem g reg m
  entry : dispatchMem g reg m = some i
  wellFormed : i.wellFormed = m.wellFormed

/-- The instruction is the entry of the register tables at `(g, row, j)`. -/
structure RegEntry (i : Instr) (g row j : BitVec 3) : Prop where
  encoded : encode i = encodeReg g row j
  entry : dispatchReg g row j = some i
  wellFormed : i.wellFormed = true

/-- Every instruction is an entry of the tables: a memory form for each constructor with a memory operand, a register
form for each other one. -/
theorem entry_cases (i : Instr) : (∃ g reg m, MemEntry i g reg m) ∨ ∃ g row j, RegEntry i g row j := by
  cases i with
  | faddM32real m | fmulM32real m | fcomM32real m | fcompM32real m | fsubM32real m | fsubrM32real m
  | fdivM32real m | fdivrM32real m | fldM32real m | fstM32real m | fstpM32real m | fldenv m | fldcw m
  | fstenv m | fstcw m | fiaddM32int m | fimulM32int m | ficomM32int m | ficompM32int m | fisubM32int m
  | fisubrM32int m | fidivM32int m | fidivrM32int m | fildM32int m | fistM32int m | fistpM32int m
  | fldM80real m | fstpM80real m | faddM64real m | fmulM64real m | fcomM64real m | fcompM64real m
  | fsubM64real m | fsubrM64real m | fdivM64real m | fdivrM64real m | fldM64real m | fstM64real m
  | fstpM64real m | frstor m | fsave m | fstswM16 m | fiaddM16int m | fimulM16int m | ficomM16int m
  | ficompM16int m | fisubM16int m | fisubrM16int m | fidivM16int m | fidivrM16int m | fildM16int m
  | fistM16int m | fistpM16int m | fbld m | fildM64int m | fbstp m | fistpM64int m =>
    exact .inl ⟨_, _, m, rfl, rfl, rfl⟩
  | faddStSti j | fmulStSti j | fcomSti j | fcompSti j | fsubStSti j | fsubrStSti j | fdivStSti j
  | fdivrStSti j | fldSti j | fxch j | fnop | fchs | fabs | ftst | fxam | fld1 | fldl2t | fldl2e | fldpi
  | fldlg2 | fldln2 | fldz | f2xm1 | fyl2x | fptan | fpatan | fxtract | fprem1 | fdecstp | fincstp | fprem
  | fyl2xp1 | fsqrt | fsincos | frndint | fscale | fsin | fcos | fcmovb j | fcmove j | fcmovbe j | fcmovu j
  | fucompp | fcmovnb j | fcmovne j | fcmovnbe j | fcmovnu j | fclex | finit | fucomi j | fcomi j | faddStiSt j
  | fmulStiSt j | fsubrStiSt j | fsubStiSt j | fdivrStiSt j | fdivStiSt j | ffree j | fstSti j | fstpSti j
  | fucom j | fucomp j | faddp j | fmulp j | fsubrp j | fsubp j | fdivrp j | fdivp j | fcompp | fstswAx
  | fucomip j | fcomip j =>
    exact .inr ⟨_, _, _, rfl, rfl, rfl⟩

/-- What the memory tables hold at `(g, reg)` is encoded there. -/
theorem memEntry_of_dispatchMem {g reg : BitVec 3} {m : MemOperand} {i : Instr} (h : dispatchMem g reg m = some i) :
    MemEntry i g reg m := by
  have hb : encode i = encodeMem (.ofNat 3 g.toNat) (.ofNat 3 reg.toNat) m ∧ i.wellFormed = m.wellFormed := by
    unfold dispatchMem at h
    split at h
    all_goals cases h
    all_goals
      simp only [*]
      exact ⟨rfl, rfl⟩
  simp only [BitVec.ofNat_toNat, BitVec.setWidth_eq] at hb
  obtain ⟨hencoded, hwf⟩ := hb
  exact ⟨hencoded, h, hwf⟩

/-- What the register tables hold at `(g, row, j)` is encoded there; an entry without an operand has one `j` only. -/
theorem regEntry_of_dispatchReg {g row j : BitVec 3} {i : Instr} (h : dispatchReg g row j = some i) :
    RegEntry i g row j := by
  have hb : encode i = encodeReg (.ofNat 3 g.toNat) (.ofNat 3 row.toNat) (.ofNat 3 j.toNat) ∧
      i.wellFormed = true := by
    unfold dispatchReg at h
    split at h
    all_goals cases h
    all_goals
      simp only [*, BitVec.ofNat_toNat, BitVec.setWidth_eq]
      exact ⟨rfl, rfl⟩
  simp only [BitVec.ofNat_toNat, BitVec.setWidth_eq] at hb
  obtain ⟨hencoded, hwf⟩ := hb
  exact ⟨hencoded, h, hwf⟩

/-! ## The entries that hold nothing -/

/-- Whether an entry of the memory tables is populated is a matter of `(g, reg)` alone (R101). -/
theorem dispatchMem_isNone_congr (g reg : BitVec 3) (m n : MemOperand) :
    (dispatchMem g reg m).isNone = (dispatchMem g reg n).isNone := by
  unfold dispatchMem
  split <;> rfl

/-- Whether R114 lists a memory form is a matter of `(g, reg)` alone. -/
theorem invalidEntry_mem_congr {mod : BitVec 2} (h : mod ≠ 3#2) (g reg rm : BitVec 3) :
    invalidEntry g (mod ++ reg ++ rm) = invalidEntry g (0#2 ++ reg ++ 0#3) := by
  have below {mod : BitVec 2} {rm : BitVec 3} (h : mod ≠ 3#2) : (mod ++ reg ++ rm).toNat < 0xC0 :=
    Laws.modrm_mem_lt mod reg rm (bne_iff_ne.mpr h)
  simp only [invalidEntry, if_pos (below h), if_pos (below (show 0#2 ≠ 3#2 by decide)), modrm_reg_toNat]

theorem dispatchMem_isNone {mod : BitVec 2} (h : mod ≠ 3#2) (g reg rm : BitVec 3) (ea : Addr) :
    (dispatchMem g reg ⟨mod, rm, ea⟩).isNone = invalidEntry g (mod ++ reg ++ rm) := by
  rw [dispatchMem_isNone_congr g reg _ ⟨0, 0, 0⟩, invalidEntry_mem_congr h]
  revert g reg; decide

theorem dispatchReg_isNone (g row i : BitVec 3) :
    (dispatchReg g row i).isNone = invalidEntry g (3#2 ++ row ++ i) := by
  revert g row i; decide

/-- The entries without an instruction are those of the list of R114. -/
theorem dispatch_isNone (g : BitVec 3) (modrm : Byte) (ea : Addr) :
    (dispatch g modrm ea).isNone = invalidEntry g modrm := by
  rw [modrm_eq_append modrm]
  generalize modrm.extractLsb' 6 2 = mod
  by_cases h : mod = 3#2
  · rw [h, dispatch_reg, dispatchReg_isNone]
  · rw [dispatch_mem h, dispatchMem_isNone h]

end Sys2Proof.Machine
end

section
/-! The statements of 30_encoding.md, each read off the tables' entries. -/

namespace Sys2Proof.Machine

/-! ## Encoding and decoding -/

theorem MemEntry.decode_encode {i : Instr} {g reg : BitVec 3} {m : MemOperand} (h : MemEntry i g reg m)
    (hw : i.wellFormed = true) : decode (encode i) = .instr i := by
  have hm : m.mod ≠ 3#2 := bne_iff_ne.mp (h.wellFormed.symm.trans hw)
  rw [h.encoded]
  exact decode_of_dispatch ((dispatch_mem hm g reg m.rm m.ea).trans h.entry)

theorem RegEntry.decode_encode {i : Instr} {g row j : BitVec 3} (h : RegEntry i g row j) :
    decode (encode i) = .instr i := by
  rw [h.encoded]
  exact decode_of_dispatch ((dispatch_reg g row j 0#32).trans h.entry)

/-- Settles O1: every instruction is an entry of the tables, which the decoder finds by the fields of the encoding. -/
theorem decodeInvertsEncode : Obligations.DecodeInvertsEncode := by
  intro i hw
  obtain ⟨g, reg, m, h⟩ | ⟨g, row, j, h⟩ := entry_cases i
  · exact h.decode_encode hw
  · exact h.decode_encode

/-- Settles O2: by the form the `mod` bits select, from the entry the instruction was read from. -/
theorem encodeInvertsDecode : Obligations.EncodeInvertsDecode := by
  intro x i h
  obtain ⟨g, hesc, hd⟩ := dispatch_of_decode h
  have hx := modrm_eq_append x.modrm
  unfold dispatch at hd
  split at hd
  · next hmod =>
    have hi := regEntry_of_dispatchReg hd
    have hreg := Laws.modrm_reg_not_lt (x.modrm.extractLsb' 3 3) (x.modrm.extractLsb' 0 3)
    rw [hmod] at hx
    rw [← hx] at hreg
    rw [hi.encoded]
    exact ⟨hi.wellFormed, hesc.symm, hx.symm, fun hlt => absurd hlt hreg⟩
  · next hmod =>
    have hi := memEntry_of_dispatchMem hd
    rw [hi.encoded]
    exact ⟨hi.wellFormed.trans (bne_iff_ne.mpr hmod), hesc.symm, hx.symm, fun _ => rfl⟩

/-! ## The fatal decode error -/

/-- Settles O3: the decoder raises it where the tables hold nothing, which is where R114 lists the entry. -/
theorem fatalDecodeExactly : Obligations.FatalDecodeExactly := by
  intro g modrm ea
  rw [← dispatch_isNone g modrm ea]
  exact decode_eq_fatalDecode_iff g modrm ea

/-! ## A word of each row -/

/-- The ModR/M bytes of a list, in order, are those of the entries beside them: after the escape byte of the group each
decodes to its instruction. -/
theorem decode_of_map_dispatch (g : BitVec 3) {ea : Addr} {l : List (Byte × Instr)}
    (h : l.map (fun p => dispatch g p.1 ea) = l.map fun p => some p.2) :
    ∀ p ∈ l, decode ⟨escByte g, p.1, ea⟩ = .instr p.2 :=
  fun p hp => decode_of_dispatch (List.map_inj_left.mp h p hp)

theorem wordsD8_decode (ea : Addr) : ∀ p ∈ wordsD8 ea, decode ⟨0xD8#8, p.1, ea⟩ = .instr p.2 :=
  decode_of_map_dispatch 0 (by simp only [wordsD8, List.map]; rfl)

theorem wordsD9_decode (ea : Addr) : ∀ p ∈ wordsD9 ea, decode ⟨0xD9#8, p.1, ea⟩ = .instr p.2 :=
  decode_of_map_dispatch 1 (by simp only [wordsD9, List.map]; rfl)

theorem wordsDA_decode (ea : Addr) : ∀ p ∈ wordsDA ea, decode ⟨0xDA#8, p.1, ea⟩ = .instr p.2 :=
  decode_of_map_dispatch 2 (by simp only [wordsDA, List.map]; rfl)

theorem wordsDB_decode (ea : Addr) : ∀ p ∈ wordsDB ea, decode ⟨0xDB#8, p.1, ea⟩ = .instr p.2 :=
  decode_of_map_dispatch 3 (by simp only [wordsDB, List.map]; rfl)

theorem wordsDC_decode (ea : Addr) : ∀ p ∈ wordsDC ea, decode ⟨0xDC#8, p.1, ea⟩ = .instr p.2 :=
  decode_of_map_dispatch 4 (by simp only [wordsDC, List.map]; rfl)

theorem wordsDD_decode (ea : Addr) : ∀ p ∈ wordsDD ea, decode ⟨0xDD#8, p.1, ea⟩ = .instr p.2 :=
  decode_of_map_dispatch 5 (by simp only [wordsDD, List.map]; rfl)

theorem wordsDE_decode (ea : Addr) : ∀ p ∈ wordsDE ea, decode ⟨0xDE#8, p.1, ea⟩ = .instr p.2 :=
  decode_of_map_dispatch 6 (by simp only [wordsDE, List.map]; rfl)

theorem wordsDF_decode (ea : Addr) : ∀ p ∈ wordsDF ea, decode ⟨0xDF#8, p.1, ea⟩ = .instr p.2 :=
  decode_of_map_dispatch 7 (by simp only [wordsDF, List.map]; rfl)

theorem sampleWords_decode (ea : Addr) : ∀ w ∈ sampleWords ea, decode ⟨w.1, w.2.1, ea⟩ = .instr w.2.2 := by
  simp only [sampleWords, List.forall_mem_append, List.forall_mem_map]
  exact ⟨⟨⟨⟨⟨⟨⟨wordsD8_decode ea, wordsD9_decode ea⟩, wordsDA_decode ea⟩, wordsDB_decode ea⟩, wordsDC_decode ea⟩,
    wordsDD_decode ea⟩, wordsDE_decode ea⟩, wordsDF_decode ea⟩

/-- Settles O4: by the entries of the tables, group by group. -/
theorem sampleWordsDecode : Obligations.SampleWordsDecode := fun ea =>
  ⟨⟨rfl, sampleWords_decode ea⟩, decode_of_dispatch (g := 0) rfl, decode_of_dispatch (g := 1) rfl,
    decode_of_dispatch (g := 2) rfl, decode_of_dispatch (g := 3) rfl, decode_of_dispatch (g := 4) rfl,
    decode_of_dispatch (g := 5) rfl, decode_of_dispatch (g := 6) rfl, decode_of_dispatch (g := 7) rfl⟩

end Sys2Proof.Machine
end

section
/-! SUPPORT. Rounding against the real numbers: the kernel's exact rationals, the rounding direction, and rounding to a
format (40_kernel_and_protocol.md R138 to R140). -/

namespace Sys2Proof.Machine

/-! ## Powers of two -/

theorem two_zpow_pos (k : ℤ) : (0 : ℝ) < (2 : ℝ) ^ k := zpow_pos two_pos k

theorem two_zpow_mul (j k : ℤ) : (2 : ℝ) ^ j * (2 : ℝ) ^ k = (2 : ℝ) ^ (j + k) := (zpow_add₀ two_ne_zero j k).symm

theorem two_zpow_div (j k : ℤ) : (2 : ℝ) ^ j / (2 : ℝ) ^ k = (2 : ℝ) ^ (j - k) := (zpow_sub₀ two_ne_zero j k).symm

theorem two_zpow_toNat {k : ℤ} (h : 0 ≤ k) : (2 : ℝ) ^ k.toNat = (2 : ℝ) ^ k := by
  rw [← zpow_natCast, Int.toNat_of_nonneg h]

theorem two_zpow_lt {j k : ℤ} : (2 : ℝ) ^ j < (2 : ℝ) ^ k ↔ j < k := zpow_lt_zpow_iff_right₀ one_lt_two

theorem two_zpow_le {j k : ℤ} : (2 : ℝ) ^ j ≤ (2 : ℝ) ^ k ↔ j ≤ k := zpow_le_zpow_iff_right₀ one_lt_two

/-- A positive real lies between two neighbouring powers of two only. -/
theorem two_zpow_unique {x : ℝ} {j k : ℤ} (hj : (2 : ℝ) ^ j ≤ x) (hj' : x < (2 : ℝ) ^ (j + 1)) (hk : (2 : ℝ) ^ k ≤ x)
    (hk' : x < (2 : ℝ) ^ (k + 1)) : j = k := by
  have h1 := two_zpow_lt.mp (hj.trans_lt hk')
  have h2 := two_zpow_lt.mp (hk.trans_lt hj')
  omega

/-! ## Scaled rationals -/

theorem scaledDen_ne_zero {den : ℕ} (h : den ≠ 0) (k : ℤ) : scaledDen den k ≠ 0 := by
  unfold scaledDen
  split
  · exact h
  · positivity

/-- `scaledNum` over `scaledDen` is the rational times the power of two. -/
theorem scaledNum_div_scaledDen (num den : ℕ) (k : ℤ) :
    (scaledNum num k : ℝ) / scaledDen den k = (num : ℝ) / den * (2 : ℝ) ^ k := by
  unfold scaledNum scaledDen
  split
  · next h =>
    push_cast
    rw [two_zpow_toNat h, mul_div_right_comm]
  · next h =>
    push_cast
    rw [two_zpow_toNat (by omega), zpow_neg]
    field_simp

/-- `ratLog2` is the exponent of the leading bit. -/
theorem ratLog2_spec {num den : ℕ} (hn : num ≠ 0) (hd : den ≠ 0) (e : ℤ) :
    (2 : ℝ) ^ ratLog2 num den e ≤ (num : ℝ) / den * (2 : ℝ) ^ e ∧
      (num : ℝ) / den * (2 : ℝ) ^ e < (2 : ℝ) ^ (ratLog2 num den e + 1) := by
  have hlo (n : ℕ) (h : n ≠ 0) : (2 : ℝ) ^ (n.log2 : ℤ) ≤ n := by
    exact_mod_cast Nat.log2_self_le h
  have hhi (n : ℕ) : (n : ℝ) < (2 : ℝ) ^ ((n.log2 : ℤ) + 1) := by
    exact_mod_cast Nat.lt_log2_self (n := n)
  have hdpos : (0 : ℝ) < den := by positivity
  have hlower : (2 : ℝ) ^ ((num.log2 : ℤ) - den.log2 - 1) ≤ (num : ℝ) / den := by
    rw [le_div_iff₀ hdpos]
    calc (2 : ℝ) ^ ((num.log2 : ℤ) - den.log2 - 1) * den
        ≤ (2 : ℝ) ^ ((num.log2 : ℤ) - den.log2 - 1) * (2 : ℝ) ^ ((den.log2 : ℤ) + 1) := by gcongr; exact (hhi den).le
      _ = (2 : ℝ) ^ (num.log2 : ℤ) := by rw [two_zpow_mul]; congr 1; ring
      _ ≤ num := hlo num hn
  have hupper : (num : ℝ) / den < (2 : ℝ) ^ ((num.log2 : ℤ) - den.log2 + 1) := by
    rw [div_lt_iff₀ hdpos]
    calc (num : ℝ) < (2 : ℝ) ^ ((num.log2 : ℤ) + 1) := hhi num
      _ = (2 : ℝ) ^ ((num.log2 : ℤ) - den.log2 + 1) * (2 : ℝ) ^ (den.log2 : ℤ) := by
        rw [two_zpow_mul]; congr 1; ring
      _ ≤ _ := by gcongr; exact hlo den hd
  have hcmp : scaledNum num (-((num.log2 : ℤ) - den.log2)) < scaledDen den (-((num.log2 : ℤ) - den.log2)) ↔
      (num : ℝ) / den < (2 : ℝ) ^ ((num.log2 : ℤ) - den.log2) := by
    have hs : (0 : ℝ) < scaledDen den (-((num.log2 : ℤ) - den.log2)) := by
      exact_mod_cast Nat.pos_of_ne_zero (scaledDen_ne_zero hd _)
    rw [← Nat.cast_lt (α := ℝ), ← div_lt_one hs, scaledNum_div_scaledDen, zpow_neg, ← div_eq_mul_inv,
      div_lt_one (two_zpow_pos _)]
  unfold ratLog2
  dsimp only
  split
  · next h =>
    rw [hcmp] at h
    rw [← two_zpow_mul, show (num.log2 : ℤ) - den.log2 - 1 + e + 1 = (num.log2 : ℤ) - den.log2 + e by ring,
      ← two_zpow_mul _ e]
    exact ⟨by gcongr, by gcongr⟩
  · next h =>
    rw [hcmp, not_lt] at h
    rw [← two_zpow_mul, show (num.log2 : ℤ) - den.log2 + e + 1 = (num.log2 : ℤ) - den.log2 + 1 + e by ring,
      ← two_zpow_mul _ e]
    exact ⟨by gcongr, by gcongr⟩

/-! ## The rounding direction (40_kernel_and_protocol.md R139) -/

/-- `rint_dir` is less than 1 away. -/
theorem IsRint.near {rm : Rm} {s : Bool} {t : ℝ} {n : ℤ} (h : IsRint rm s t n) : (n : ℝ) - 1 < t ∧ t < n + 1 := by
  cases rm with
  | rn =>
    obtain ⟨hlo, hhi⟩ := abs_le.mp h.1
    constructor <;> linarith
  | rz => exact ⟨by linarith [h.1], h.2⟩
  | rd | ru =>
    cases s <;> obtain ⟨hlo, hhi⟩ := h <;> constructor <;> linarith

theorem IsRint.le_of_le {rm : Rm} {s : Bool} {t : ℝ} {n z : ℤ} (h : IsRint rm s t n) (hz : (z : ℝ) ≤ t) : z ≤ n := by
  have hlt : (z : ℝ) < ((n + 1 : ℤ) : ℝ) := by push_cast; linarith [h.near.2]
  exact Int.lt_add_one_iff.mp (Int.cast_lt.mp hlt)

theorem IsRint.ge_of_ge {rm : Rm} {s : Bool} {t : ℝ} {n z : ℤ} (h : IsRint rm s t n) (hz : t ≤ z) : n ≤ z := by
  have hlt : ((n - 1 : ℤ) : ℝ) < z := by push_cast; linarith [h.near.1]
  have := Int.cast_lt.mp hlt
  omega

/-- An integer is its own `rint_dir`. -/
theorem IsRint.eq_of_int {rm : Rm} {s : Bool} {n z : ℤ} (h : IsRint rm s z n) : n = z :=
  le_antisymm (h.ge_of_ge le_rfl) (h.le_of_le le_rfl)

/-- Of the two integers around `t = q + x`, the one that `rint_dir` chooses by the fraction `x`. -/
theorem isRint_floor {rm : Rm} {s : Bool} {q : ℤ} {x : ℝ} (h0 : 0 ≤ x) (h1 : x < 1)
    (hrn : rm = .rn → x < 1 / 2 ∨ (x = 1 / 2 ∧ Even q)) (hup : (rm = .rd ∧ s = true) ∨ (rm = .ru ∧ s = false) → x = 0) :
    IsRint rm s (q + x) q := by
  cases rm with
  | rn =>
    rw [IsRint, add_sub_cancel_left, abs_of_nonneg h0]
    obtain h | ⟨h, he⟩ := hrn rfl
    · exact ⟨h.le, fun h' => absurd h' h.ne⟩
    · exact ⟨h.le, fun _ => he⟩
  | rz => exact ⟨by linarith, by linarith⟩
  | rd =>
    cases s with
    | false => exact ⟨by linarith, by linarith⟩
    | true =>
      have := hup (.inl ⟨rfl, rfl⟩)
      exact ⟨by linarith, by linarith⟩
  | ru =>
    cases s with
    | true => exact ⟨by linarith, by linarith⟩
    | false =>
      have := hup (.inr ⟨rfl, rfl⟩)
      exact ⟨by linarith, by linarith⟩

theorem isRint_ceil {rm : Rm} {s : Bool} {q : ℤ} {x : ℝ} (h0 : 0 < x) (h1 : x < 1)
    (hrn : rm = .rn → 1 / 2 < x ∨ (x = 1 / 2 ∧ Even (q + 1)))
    (hup : rm = .rn ∨ (rm = .rd ∧ s = true) ∨ (rm = .ru ∧ s = false)) : IsRint rm s (q + x) (q + 1) := by
  obtain rfl | ⟨rfl, rfl⟩ | ⟨rfl, rfl⟩ := hup
  · have hx : (q : ℝ) + x - ((q + 1 : ℤ) : ℝ) = -(1 - x) := by push_cast; ring
    rw [IsRint, hx, abs_neg, abs_of_pos (by linarith)]
    obtain h | ⟨h, he⟩ := hrn rfl
    · exact ⟨by linarith, fun h' => by linarith⟩
    · exact ⟨by linarith, fun _ => he⟩
  · rw [IsRint]; push_cast; constructor <;> linarith
  · rw [IsRint]; push_cast; constructor <;> linarith

/-- A quotient is its integer part and the remainder over the divisor. -/
theorem div_eq_floor_add {num den : ℕ} (hd : den ≠ 0) :
    (num : ℝ) / den = ((num / den : ℕ) : ℤ) + ((num % den : ℕ) : ℝ) / den := by
  have hdr : (den : ℝ) ≠ 0 := by exact_mod_cast hd
  rw [div_eq_iff hdr, add_mul, div_mul_cancel₀ _ hdr, mul_comm, Int.cast_natCast]
  exact_mod_cast (Nat.div_add_mod num den).symm

theorem rintDir_spec (rm : Rm) (s : Bool) (num : ℕ) {den : ℕ} (hd : den ≠ 0) :
    IsRint rm s ((num : ℝ) / den) (rintDir rm s num den) := by
  have hdpos : (0 : ℝ) < den := by positivity
  have hlt : ((num % den : ℕ) : ℝ) / den < 1 := by
    rw [div_lt_one hdpos]
    exact_mod_cast Nat.mod_lt num (Nat.pos_of_ne_zero hd)
  have hge : 0 ≤ ((num % den : ℕ) : ℝ) / den := by positivity
  have hzero : num % den = 0 → ((num % den : ℕ) : ℝ) / den = 0 := fun h => by rw [h, Nat.cast_zero, zero_div]
  have hpos : num % den ≠ 0 → 0 < ((num % den : ℕ) : ℝ) / den := fun h => by positivity
  have hcast (n : ℕ) : (((n + 1 : ℕ) : ℤ)) = (n : ℤ) + 1 := by push_cast; rfl
  rw [div_eq_floor_add hd]
  unfold rintDir
  cases rm with
  | rn =>
    dsimp only
    split_ifs with h1 h2 h3
    · refine isRint_floor hge hlt (fun _ => .inl ?_) (by simp)
      rw [div_lt_div_iff₀ hdpos two_pos]
      exact_mod_cast (by omega : num % den * 2 < 1 * den)
    · rw [hcast]
      refine isRint_ceil (hpos (by omega)) hlt (fun _ => .inl ?_) (.inl rfl)
      rw [div_lt_div_iff₀ two_pos hdpos]
      exact_mod_cast (by omega : 1 * den < num % den * 2)
    all_goals
      have hhalf : ((num % den : ℕ) : ℝ) / den = 1 / 2 := by
        rw [div_eq_div_iff hdpos.ne' two_ne_zero]
        exact_mod_cast (by omega : num % den * 2 = 1 * den)
    · exact isRint_floor hge hlt (fun _ => .inr ⟨hhalf, by exact_mod_cast Nat.even_iff.mpr h3⟩) (by simp)
    · rw [hcast]
      refine isRint_ceil (hpos (by omega)) hlt (fun _ => .inr ⟨hhalf, ?_⟩) (.inl rfl)
      exact_mod_cast Nat.even_iff.mpr (by omega : (num / den + 1) % 2 = 0)
  | rz => exact isRint_floor hge hlt nofun (by simp)
  | rd | ru =>
    dsimp only
    split
    · next h =>
      simp only [Bool.and_eq_true, Bool.not_eq_true', bne_iff_ne] at h
      obtain ⟨rfl, hr⟩ := h
      rw [hcast]
      exact isRint_ceil (hpos hr) hlt nofun (by simp)
    · next h =>
      simp only [Bool.and_eq_true, Bool.not_eq_true', bne_iff_ne, not_and, not_not] at h
      exact isRint_floor hge hlt nofun fun hs => hzero (h (by simpa using hs))

/-- `rint_dir` changes nothing exactly when the division leaves no remainder. -/
theorem rintDir_eq_iff (rm : Rm) (s : Bool) (num : ℕ) {den : ℕ} (hd : den ≠ 0) :
    (rintDir rm s num den : ℝ) = (num : ℝ) / den ↔ num % den = 0 := by
  have hdr : (den : ℝ) ≠ 0 := by exact_mod_cast hd
  constructor
  · intro h
    rw [eq_div_iff hdr] at h
    have h' : rintDir rm s num den * den = num := by exact_mod_cast h
    rw [← h', Nat.mul_mod_left]
  · intro h
    have hq : (num : ℝ) / den = ((num / den : ℕ) : ℤ) := by rw [div_eq_floor_add hd, h]; simp
    have hr := rintDir_spec rm s num hd
    rw [hq] at hr ⊢
    exact_mod_cast congrArg (Int.cast (R := ℝ)) hr.eq_of_int

/-! ## Rounding to a format (40_kernel_and_protocol.md R140) -/

theorem pow_toNat_le_iff (y : ℕ) {j k : ℤ} (h : k ≤ j) : 2 ^ (j - k).toNat ≤ y ↔ (2 : ℝ) ^ j ≤ y * (2 : ℝ) ^ k := by
  rw [← Nat.cast_le (α := ℝ), Nat.cast_pow, Nat.cast_ofNat, two_zpow_toNat (by omega), zpow_sub₀ two_ne_zero,
    div_le_iff₀ (two_zpow_pos k)]

theorem Fmt.one_le_p (f : Fmt) : 1 ≤ f.p := by cases f <;> decide

theorem Fmt.emin_le_emax (f : Fmt) : f.emin ≤ f.emax := by cases f <;> decide

/-- `rint_dir` of a scaled rational. -/
theorem rintDir_scaled (rm : Rm) (s : Bool) (num : ℕ) {den : ℕ} (hd : den ≠ 0) (e k : ℤ) :
    IsRint rm s ((num : ℝ) / den * (2 : ℝ) ^ e / (2 : ℝ) ^ k)
      (rintDir rm s (scaledNum num (e - k)) (scaledDen den (e - k))) := by
  have h := rintDir_spec rm s (scaledNum num (e - k)) (scaledDen_ne_zero hd (e - k))
  rwa [scaledNum_div_scaledDen, ← two_zpow_div, ← mul_div_assoc] at h

theorem rintDir_scaled_exact_iff (rm : Rm) (s : Bool) (num : ℕ) {den : ℕ} (hd : den ≠ 0) (e k : ℤ) :
    scaledNum num (e - k) % scaledDen den (e - k) = 0 ↔
      (rintDir rm s (scaledNum num (e - k)) (scaledDen den (e - k)) : ℝ) * (2 : ℝ) ^ k =
        (num : ℝ) / den * (2 : ℝ) ^ e := by
  rw [← rintDir_eq_iff rm s _ (scaledDen_ne_zero hd _), scaledNum_div_scaledDen, ← two_zpow_div, ← mul_div_assoc,
    eq_div_iff (two_zpow_pos k).ne']

/-- Rounded to the precision of a format, a number keeps its leading bit. -/
theorem IsRint.leading {rm : Rm} {s : Bool} {x : ℝ} {l k n : ℤ} (hl : (2 : ℝ) ^ l ≤ x) (hk : k ≤ l)
    (h : IsRint rm s (x / (2 : ℝ) ^ k) n) : (2 : ℝ) ^ l ≤ n * (2 : ℝ) ^ k := by
  have hz : (((2 ^ (l - k).toNat : ℕ) : ℤ) : ℝ) = (2 : ℝ) ^ l / (2 : ℝ) ^ k := by
    rw [two_zpow_div]
    push_cast
    exact two_zpow_toNat (by omega)
  have hle : ((2 ^ (l - k).toNat : ℕ) : ℤ) ≤ n := h.le_of_le (by rw [hz]; gcongr)
  rw [← div_le_iff₀ (two_zpow_pos k), ← hz]
  exact_mod_cast hle

/-- The largest finite value of a format. -/
theorem Fmt.largest (f : Fmt) : (2 - (2 : ℝ) ^ (1 - f.p : ℤ)) * (2 : ℝ) ^ f.emax =
    ((2 ^ f.p - 1 : ℕ) : ℝ) * (2 : ℝ) ^ (f.emax - f.p + 1) := by
  rw [show f.emax = (f.p - 1 : ℤ) + (f.emax - f.p + 1) by ring, ← two_zpow_mul, ← mul_assoc, sub_mul, two_zpow_mul,
    Nat.cast_sub Nat.one_le_two_pow, zpow_sub_one₀ two_ne_zero, zpow_natCast]
  congr 2
  · push_cast; ring
  · ring_nf; simp
  · ring

theorem overflowVal_eq (f : Fmt) (rm : Rm) (s : Bool) :
    if rm = .rn ∨ (rm = .ru ∧ s = false) ∨ (rm = .rd ∧ s = true) then overflowVal f rm s = .inf s
    else (overflowVal f rm s).IsMagnitude s ((2 - (2 : ℝ) ^ (1 - f.p : ℤ)) * (2 : ℝ) ^ f.emax) := by
  split
  · next h => obtain rfl | ⟨rfl, rfl⟩ | ⟨rfl, rfl⟩ := h <;> rfl
  · next h =>
    have hfin : overflowVal f rm s = .fin s (2 ^ f.p - 1) (f.emax - f.p + 1) := by
      cases rm <;> cases s <;> simp_all [overflowVal]
    rw [hfin]
    exact ⟨rfl, by cases f <;> decide, f.largest⟩

theorem roundF_isRounded (f : Fmt) (rm : Rm) (s : Bool) {num den : ℕ} (e : ℤ) (hn : num ≠ 0) (hd : den ≠ 0) :
    IsRounded f rm s ((num : ℝ) / den * (2 : ℝ) ^ e) (roundF f rm s num den e) := by
  obtain ⟨hlo, hhi⟩ := ratLog2_spec hn hd e
  have hu := rintDir_scaled rm s num hd e (ratLog2 num den e - f.p + 1)
  have hy := rintDir_scaled rm s num hd e (max (ratLog2 num den e) f.emin - f.p + 1)
  have hx := rintDir_scaled_exact_iff rm s num hd e (max (ratLog2 num den e) f.emin - f.p + 1)
  unfold roundF
  dsimp only
  generalize ratLog2 num den e = l at *
  generalize rintDir rm s (scaledNum num (e - (l - f.p + 1))) (scaledDen den (e - (l - f.p + 1))) = u at *
  generalize (scaledNum num (e - (max l f.emin - f.p + 1))) = n at *
  generalize (scaledDen den (e - (max l f.emin - f.p + 1))) = d at *
  generalize rintDir rm s n d = y at *
  generalize (num : ℝ) / den * (2 : ℝ) ^ e = x at *
  have hp := f.one_le_p
  have hem := f.emin_le_emax
  -- above the range the leading bit of the rounded value is
  have hover : (f.emax + 1 < max l f.emin - f.p + 1 ∨ 2 ^ (f.emax + 1 - (max l f.emin - f.p + 1)).toNat ≤ y) ↔
      (2 : ℝ) ^ (f.emax + 1) ≤ (y : ℤ) * (2 : ℝ) ^ (max l f.emin - f.p + 1) := by
    by_cases hk : f.emax + 1 < max l f.emin - f.p + 1
    · refine iff_of_true (.inl hk) (le_trans ?_ (hy.leading hlo (by omega)))
      exact two_zpow_le.mpr (by omega)
    · rw [or_iff_right hk, pow_toNat_le_iff y (by omega), Int.cast_natCast]
  have htiny : (l - f.p + 1 < f.emin ∧ u < 2 ^ (f.emin - (l - f.p + 1)).toNat) ↔
      ((u : ℤ) : ℝ) * (2 : ℝ) ^ (l - f.p + 1) < (2 : ℝ) ^ f.emin := by
    by_cases hk : l - f.p + 1 < f.emin
    · rw [and_iff_right hk, ← not_le, pow_toNat_le_iff u hk.le, not_le, Int.cast_natCast]
    · refine iff_of_false (fun h => hk h.1) (not_lt.mpr (le_trans ?_ (hu.leading hlo (by omega))))
      exact two_zpow_le.mpr (by omega)
  refine ⟨l, u, y, hlo, hhi, hu, hy, ?_⟩
  simp only [hover]
  split
  · exact ⟨rfl, rfl, rfl, rfl, rfl, overflowVal_eq f rm s⟩
  · refine ⟨rfl, rfl, ?_, rfl, ?_, ?_⟩
    · dsimp only
      split
      · next h => exact ⟨rfl, by simp [h]⟩
      · next h => exact ⟨rfl, h, by rw [Int.cast_natCast]⟩
    · simpa using not_congr hx
    · simp only [htiny, Bool.and_eq_true, decide_eq_true_eq, and_comm]

end Sys2Proof.Machine
end

section
/-! SUPPORT. The encodings of the extended format by the value they hold (40_kernel_and_protocol.md R130 to R133,
R149). -/

namespace Sys2Proof

theorem Fx80.j_eq (v : Fx80) : v.j = decide (2 ^ 63 ≤ v.low.toNat) := by
  have := v.low.isLt
  rw [Fx80.j, BitVec.getLsbD, Nat.testBit_eq_decide_div_mod_eq]
  exact decide_eq_decide.mpr (by omega)

theorem Fx80.isFinite_iff (v : Fx80) : v.isFinite = true ↔ v.exp.toNat ≠ 0x7FFF := by
  rw [Fx80.isFinite, bne_iff_ne, ne_eq, ← BitVec.toNat_inj]
  rfl

theorem Fx80.isZero_iff (v : Fx80) : v.isZero = true ↔ v.exp.toNat = 0 ∧ v.low.toNat = 0 := by
  simp [Fx80.isZero, ← BitVec.toNat_inj]

theorem Fx80.isUnsupported_eq_false_iff (v : Fx80) :
    v.isUnsupported = false ↔ (v.exp.toNat ≠ 0 → 2 ^ 63 ≤ v.low.toNat) := by
  simp [Fx80.isUnsupported, Fx80.j_eq, ← BitVec.toNat_inj]

end Sys2Proof

namespace Sys2Proof.Machine

/-! ## Encodings by value -/

/-- `scale` is the integer part of the scaled number. -/
theorem scale_eq_floor (m : ℕ) (k : ℤ) : scale m k = ⌊(m : ℝ) * (2 : ℝ) ^ k⌋₊ := by
  unfold scale
  split
  · next h =>
    rw [← two_zpow_toNat h]
    exact_mod_cast (Nat.floor_natCast (R := ℝ) (m * 2 ^ k.toNat)).symm
  · next h =>
    have hd : (m : ℝ) * (2 : ℝ) ^ k = (m : ℝ) / ((2 ^ (-k).toNat : ℕ) : ℝ) := by
      push_cast
      rw [two_zpow_toNat (by omega), zpow_neg, div_inv_eq_mul]
    rw [hd, Nat.floor_div_natCast, Nat.floor_natCast]

theorem floorLog2_spec {m : ℕ} (hm : m ≠ 0) (e : ℤ) :
    (2 : ℝ) ^ floorLog2 m e ≤ m * (2 : ℝ) ^ e ∧ m * (2 : ℝ) ^ e < (2 : ℝ) ^ (floorLog2 m e + 1) := by
  have hlo : (2 : ℝ) ^ (m.log2 : ℤ) ≤ m := by exact_mod_cast Nat.log2_self_le hm
  have hhi : (m : ℝ) < (2 : ℝ) ^ ((m.log2 : ℤ) + 1) := by exact_mod_cast Nat.lt_log2_self (n := m)
  rw [floorLog2, show (m.log2 : ℤ) + e + 1 = (m.log2 : ℤ) + 1 + e by ring, ← two_zpow_mul, ← two_zpow_mul]
  exact ⟨by gcongr, by gcongr⟩

theorem floorLog2_congr {m n : ℕ} {e g : ℤ} (hm : m ≠ 0) (hn : n ≠ 0)
    (h : (m : ℝ) * (2 : ℝ) ^ e = n * (2 : ℝ) ^ g) : floorLog2 m e = floorLog2 n g := by
  have h1 := floorLog2_spec hm e
  have h2 := floorLog2_spec hn g
  rw [h] at h1
  exact two_zpow_unique h1.1 h1.2 h2.1 h2.2

theorem scale_congr {m n : ℕ} {e g : ℤ} (h : (m : ℝ) * (2 : ℝ) ^ e = n * (2 : ℝ) ^ g) (j : ℤ) :
    scale m (e + j) = scale n (g + j) := by
  rw [scale_eq_floor, scale_eq_floor, ← two_zpow_mul, ← two_zpow_mul, ← mul_assoc, ← mul_assoc, h]

/-- The encoding depends on the value alone, not on how it is written (40_kernel_and_protocol.md R133). -/
theorem packExt_fin_congr {m n : ℕ} {e g : ℤ} (s : Bool) (hm : m ≠ 0) (hn : n ≠ 0)
    (h : (m : ℝ) * (2 : ℝ) ^ e = n * (2 : ℝ) ^ g) : packExt (.fin s m e) = packExt (.fin s n g) := by
  simp only [packExt, floorLog2_congr hm hn h, add_sub_assoc, scale_congr h]

theorem packNarrow_fin_congr {m n : ℕ} {e g : ℤ} (fb eb : ℕ) (s : Bool) (hm : m ≠ 0) (hn : n ≠ 0)
    (h : (m : ℝ) * (2 : ℝ) ^ e = n * (2 : ℝ) ^ g) :
    packNarrow fb eb (.fin s m e) = packNarrow fb eb (.fin s n g) := by
  simp only [packNarrow, floorLog2_congr hm hn h, add_sub_assoc, add_assoc, scale_congr h]

/-- A product with a power of two that is an integer. -/
theorem scale_of_nonneg (m : ℕ) {k : ℤ} (h : 0 ≤ k) : scale m k = m * 2 ^ k.toNat := if_pos h

/-! ## The fields of an extended value -/

theorem signBit_le_one (s : Bool) : signBit s ≤ 1 := by cases s <;> decide

theorem highWord_toNat (s : Bool) {e : ℕ} (h : e < 2 ^ 15) : (highWord s e).toNat = signBit s * 2 ^ 15 + e := by
  have := signBit_le_one s
  rw [highWord, BitVec.toNat_ofNat]
  omega

theorem sign_highWord (s : Bool) {e : ℕ} (h : e < 2 ^ 15) (w : BitVec 64) : Fx80.sign ⟨highWord s e, w⟩ = s := by
  rw [Fx80.sign, BitVec.getLsbD, highWord_toNat s h, Nat.testBit_eq_decide_div_mod_eq]
  cases s
  · rw [signBit, if_neg Bool.false_ne_true]
    exact decide_eq_false (by omega)
  · rw [signBit, if_pos rfl]
    exact decide_eq_true (by omega)

theorem exp_highWord (s : Bool) {e : ℕ} (h : e < 2 ^ 15) (w : BitVec 64) :
    (Fx80.exp ⟨highWord s e, w⟩).toNat = e := by
  rw [Fx80.exp, BitVec.extractLsb'_toNat, highWord_toNat s h, Nat.shiftRight_zero]
  omega

/-- A number of the extended format: finite, in a supported encoding, with this sign and this magnitude above zero
(R131, R132). -/
structure IsNumber (v : Fx80) (s : Bool) (x : ℝ) : Prop where
  sign : v.sign = s
  abs : fxIsAbs v x
  finite : v.isFinite = true
  nonzero : v.isZero = false
  supported : v.isUnsupported = false

theorem IsNumber.unpack {v : Fx80} {s : Bool} {x : ℝ} (h : IsNumber v s x) :
    unpackExt v = .fin s v.low.toNat ((max v.exp.toNat 1 : ℕ) - 16446) := by
  have he : v.exp ≠ 0x7FFF#15 := fun e => (v.isFinite_iff.mp h.finite) (by rw [e]; rfl)
  simp [unpackExt, Fx80.isNan, Fx80.isInf, he, h.nonzero, h.sign]

theorem IsNumber.low_ne_zero {v : Fx80} {s : Bool} {x : ℝ} (h : IsNumber v s x) : v.low.toNat ≠ 0 := by
  intro hl
  have hz := mt v.isZero_iff.mpr (by simp [h.nonzero])
  have hu := v.isUnsupported_eq_false_iff.mp h.supported
  omega

/-- The two forms of a number: normal, and with the exponent field 0. -/
theorem isNumber_normal (s : Bool) {e l : ℕ} (h1 : 1 ≤ e) (he : e < 0x7FFF) (hl : 2 ^ 63 ≤ l) (hl' : l < 2 ^ 64) :
    IsNumber ⟨highWord s e, BitVec.ofNat 64 l⟩ s (l * (2 : ℝ) ^ (e - 16446 : ℤ)) := by
  have hexp := exp_highWord s (by omega : e < 2 ^ 15) (BitVec.ofNat 64 l)
  have hlow : (BitVec.ofNat 64 l).toNat = l := Nat.mod_eq_of_lt hl'
  refine ⟨sign_highWord s (by omega) _, ?_, ?_, ?_, ?_⟩
  · rw [fxIsAbs, hexp, hlow, max_eq_left h1]
  · rw [Fx80.isFinite_iff, hexp]; omega
  · rw [Bool.eq_false_iff, ne_eq, Fx80.isZero_iff, hexp]; omega
  · rw [Fx80.isUnsupported_eq_false_iff, hlow]; exact fun _ => hl

theorem isNumber_denormal (s : Bool) {l : ℕ} (hl : l ≠ 0) (hl' : l < 2 ^ 64) :
    IsNumber ⟨highWord s 0, BitVec.ofNat 64 l⟩ s (l * (2 : ℝ) ^ (-16445 : ℤ)) := by
  have hexp := exp_highWord s (by decide : 0 < 2 ^ 15) (BitVec.ofNat 64 l)
  have hlow : (BitVec.ofNat 64 l).toNat = l := Nat.mod_eq_of_lt hl'
  refine ⟨sign_highWord s (by decide) _, ?_, ?_, ?_, ?_⟩
  · rw [fxIsAbs, hexp, hlow]; rfl
  · rw [Fx80.isFinite_iff, hexp]; decide
  · rw [Bool.eq_false_iff, ne_eq, Fx80.isZero_iff, hlow]; exact fun h => hl h.2
  · rw [Fx80.isUnsupported_eq_false_iff, hexp]; exact fun h => absurd rfl h

/-- A significand moved up to a width: between the two powers of two of that width. -/
theorem mul_two_pow_bounds {n b j : ℕ} (hn : n ≠ 0) (h : n.log2 + j = b) :
    2 ^ b ≤ n * 2 ^ j ∧ n * 2 ^ j < 2 ^ (b + 1) := by
  subst h
  rw [show n.log2 + j + 1 = n.log2 + 1 + j by ring, pow_add, pow_add _ _ j]
  exact ⟨Nat.mul_le_mul_right _ (Nat.log2_self_le hn), Nat.mul_lt_mul_of_pos_right Nat.lt_log2_self (by positivity)⟩

/-- The canonical encoding of a number that the extended format holds exactly (R133). -/
theorem packExt_fin_isNumber (s : Bool) {n : ℕ} {k : ℤ} (hn : n ≠ 0) (h64 : n < 2 ^ 64) (hk : -16445 ≤ k)
    (hl : (n.log2 : ℤ) + k ≤ 16383) :
    IsNumber (packExt (.fin s n k)) s (n * (2 : ℝ) ^ k) ∧
      ((packExt (.fin s n k)).exp = 0#15 → (packExt (.fin s n k)).j = false) := by
  have hlog : n.log2 ≤ 63 := Nat.le_of_lt_succ ((Nat.log2_lt hn).mpr h64)
  have hval (j : ℕ) : (n : ℝ) * (2 : ℝ) ^ k = ((n * 2 ^ j : ℕ) : ℝ) * (2 : ℝ) ^ (k - j) := by
    push_cast
    rw [mul_assoc, ← zpow_natCast, two_zpow_mul]
    congr 2
    ring
  by_cases hnorm : (-16382 : ℤ) ≤ n.log2 + k
  · have hv : packExt (.fin s n k) = ⟨highWord s ((n.log2 : ℤ) + k + 16383).toNat,
        BitVec.ofNat 64 (scale n (k + 63 - (n.log2 + k)))⟩ := if_pos hnorm
    obtain ⟨hlo, hhi⟩ := mul_two_pow_bounds (j := 63 - n.log2) hn (by omega : n.log2 + (63 - n.log2) = 63)
    have hj : (k + 63 - (n.log2 + k) : ℤ).toNat = 63 - n.log2 := by omega
    rw [hv, scale_of_nonneg n (by omega), hj, hval (63 - n.log2)]
    refine ⟨?_, fun h => ?_⟩
    · have hv := isNumber_normal s (e := ((n.log2 : ℤ) + k + 16383).toNat) (by omega) (by omega) hlo hhi
      rwa [show (((((n.log2 : ℤ) + k + 16383).toNat : ℕ) : ℤ) - 16446) = k - (63 - n.log2 : ℕ) by omega] at hv
    · have he := exp_highWord s (e := ((n.log2 : ℤ) + k + 16383).toNat) (by omega)
        (BitVec.ofNat 64 (n * 2 ^ (63 - n.log2)))
      rw [h] at he
      simp only [BitVec.toNat_ofNat, Nat.zero_mod] at he
      omega
  · have hv : packExt (.fin s n k) = ⟨highWord s 0, BitVec.ofNat 64 (scale n (k + 16445))⟩ := if_neg hnorm
    have hlt : n * 2 ^ (k + 16445).toNat < 2 ^ 63 :=
      calc n * 2 ^ (k + 16445).toNat < 2 ^ (n.log2 + (k + 16445).toNat + 1) := (mul_two_pow_bounds hn rfl).2
        _ ≤ 2 ^ 63 := Nat.pow_le_pow_right two_pos (by omega)
    rw [hv, scale_of_nonneg n (by omega), hval (k + 16445).toNat]
    refine ⟨?_, fun _ => ?_⟩
    · have hv := isNumber_denormal s (l := n * 2 ^ (k + 16445).toNat) (by positivity) (by omega)
      rwa [show (-16445 : ℤ) = k - ((k + 16445).toNat : ℕ) by omega] at hv
    · rw [Fx80.j_eq, BitVec.toNat_ofNat, Nat.mod_eq_of_lt (by omega)]
      exact decide_eq_false (by omega)

/-! ## Integers in the extended format (R133, R149) -/

/-- The natural numbers that the extended format holds. -/
def ExtInteger (n : ℕ) : Prop := n = 0 ∨ ∃ m k : ℕ, m ≠ 0 ∧ m < 2 ^ 64 ∧ n = m * 2 ^ k ∧ m.log2 + k ≤ 16383

theorem encNat_zero (s : Bool) : encNat s 0 = ⟨highWord s 0, 0#64⟩ := rfl

theorem unpackExt_encNat_zero (s : Bool) : unpackExt (encNat s 0) = .zero s := by cases s <;> decide

theorem encNat_isNumber (s : Bool) {n : ℕ} (hn : n ≠ 0) (h : ExtInteger n) : IsNumber (encNat s n) s n := by
  obtain ⟨m, k, hm, h64, rfl, hl⟩ := h.resolve_left hn
  have hval : ((m * 2 ^ k : ℕ) : ℝ) * (2 : ℝ) ^ (0 : ℤ) = m * (2 : ℝ) ^ (k : ℤ) := by
    push_cast
    rw [zpow_zero, mul_one, zpow_natCast]
  have henc : encNat s (m * 2 ^ k) = packExt (.fin s m k) := by
    rw [encNat, if_neg hn]
    exact packExt_fin_congr s hn hm hval
  rw [henc, show ((m * 2 ^ k : ℕ) : ℝ) = m * (2 : ℝ) ^ (k : ℤ) by rw [← hval, zpow_zero, mul_one]]
  exact (packExt_fin_isNumber s hm h64 (by omega) (by omega)).1

theorem fxIsAbs_encNat (s : Bool) {n : ℕ} (h : ExtInteger n) : fxIsAbs (encNat s n) n := by
  by_cases hn : n = 0
  · rw [hn, encNat_zero, fxIsAbs]
    simp
  · exact (encNat_isNumber s hn h).abs

/-- An encoded integer is read back. -/
theorem integerOf_encNat (s : Bool) {n : ℕ} (h : ExtInteger n) :
    integerOf (encNat s n) = if s then -(n : ℤ) else n := by
  by_cases hn : n = 0
  · rw [hn, integerOf, unpackExt_encNat_zero]
    simp
  · have hv := encNat_isNumber s hn h
    have habs : (n : ℝ) = _ := hv.abs
    rw [integerOf, hv.unpack]
    dsimp only
    rw [scale_eq_floor, ← habs, Nat.floor_natCast]

/-! ## Finite extended operands -/

/-- A finite, supported operand that is no zero is a number. -/
theorem isNumber_of_finite {a : Fx80} {x : ℝ} (hu : a.isUnsupported = false) (hf : a.isFinite = true)
    (hz : a.isZero = false) (hx : fxIsAbs a x) : IsNumber a a.sign x := ⟨rfl, hx, hf, hz, hu⟩

theorem unpackExt_nan {a : Fx80} (h : a.isNan = true) : unpackExt a = .nan a.sign a.low.toNat := if_pos h

theorem unpackExt_inf {a : Fx80} (h : a.isInf = true) : unpackExt a = .inf a.sign := by
  have hn : a.isNan = false := by
    rw [Fx80.isInf, Bool.and_eq_true, beq_iff_eq, beq_iff_eq] at h
    simp [Fx80.isNan, h.2]
  simp [unpackExt, hn, h]

theorem unpackExt_zero {a : Fx80} (h : a.isZero = true) : unpackExt a = .zero a.sign := by
  have he : a.exp = 0#15 := by
    rw [Fx80.isZero, Bool.and_eq_true, beq_iff_eq] at h
    exact h.1
  simp [unpackExt, Fx80.isNan, Fx80.isInf, he, h]

/-- What is not finite is an infinity or a NaN (R131). -/
theorem isNan_or_isInf {a : Fx80} (h : a.isFinite = false) : a.isNan = true ∨ a.isInf = true := by
  have he : a.exp = 0x7FFF#15 := by simpa [Fx80.isFinite] using h
  by_cases hf : a.frac = 0#63 <;> simp [Fx80.isNan, Fx80.isInf, he, hf]

/-- Round to integer of what is no number above zero (R149). -/
theorem kRint_special (rm : Rm) {a : Fx80} (h : a.isFinite = false ∨ a.isZero = true) :
    kRint rm a = (a, KFlags.empty) := by
  rw [kRint]
  obtain h | h := h
  · obtain h | h := isNan_or_isInf h
    · rw [unpackExt_nan h]
    · rw [unpackExt_inf h]
  · rw [unpackExt_zero h]

theorem kRint_number (rm : Rm) {a : Fx80} {s : Bool} {x : ℝ} (h : IsNumber a s x) :
    kRint rm a = (encNat s (rintFinite rm s a.low.toNat ((max a.exp.toNat 1 : ℕ) - 16446)).1,
      KFlags.inexactIf (rintFinite rm s a.low.toNat ((max a.exp.toNat 1 : ℕ) - 16446)).2) := by
  rw [kRint, h.unpack]

/-- The integer for a finite number is its `rint_dir`, and whether it changed is told (R139, R149). -/
theorem rintFinite_spec (rm : Rm) (s : Bool) (m : ℕ) (e : ℤ) :
    IsRint rm s (m * (2 : ℝ) ^ e) (rintFinite rm s m e).1 ∧
      ((rintFinite rm s m e).2 = true ↔ ((rintFinite rm s m e).1 : ℝ) ≠ m * (2 : ℝ) ^ e) := by
  have hd := scaledDen_ne_zero one_ne_zero e
  have hx : (scaledNum m e : ℝ) / scaledDen 1 e = m * (2 : ℝ) ^ e := by
    rw [scaledNum_div_scaledDen, Nat.cast_one, div_one]
  have hr := rintDir_spec rm s (scaledNum m e) hd
  have hi := rintDir_eq_iff rm s (scaledNum m e) hd
  rw [hx] at hr hi
  exact ⟨hr, bne_iff_ne.trans (not_congr hi).symm⟩

/-- The exponents of the numbers of the format (R132). -/
theorem IsNumber.exponent_le {v : Fx80} {s : Bool} {x : ℝ} (h : IsNumber v s x) :
    ((max v.exp.toNat 1 : ℕ) - 16446 : ℤ) ≤ 16320 := by
  have := v.isFinite_iff.mp h.finite
  have := v.exp.isLt
  omega

/-- An integer that the rounding direction gives for a number of the format is one of the format's. -/
theorem rintFinite_extInteger (rm : Rm) (s : Bool) {m : ℕ} {e : ℤ} (hm : m ≠ 0) (h64 : m < 2 ^ 64) (he : e ≤ 16320) :
    ExtInteger (rintFinite rm s m e).1 := by
  have hlog {n : ℕ} (hn : n ≠ 0) (h : n < 2 ^ 64) : n.log2 < 64 := (Nat.log2_lt hn).mpr h
  have hr := (rintFinite_spec rm s m e).1
  generalize (rintFinite rm s m e).1 = n at *
  by_cases h : 0 ≤ e
  · have hz : (m : ℝ) * (2 : ℝ) ^ e = ((m * 2 ^ e.toNat : ℕ) : ℤ) := by
      push_cast
      rw [two_zpow_toNat h]
    rw [hz] at hr
    refine .inr ⟨m, e.toNat, hm, h64, by exact_mod_cast hr.eq_of_int, ?_⟩
    have := hlog hm h64
    omega
  · have hle : (n : ℤ) ≤ m := hr.ge_of_ge (by
      calc (m : ℝ) * (2 : ℝ) ^ e ≤ m * (2 : ℝ) ^ (0 : ℤ) := by gcongr <;> [norm_num; omega]
        _ = ((m : ℤ) : ℝ) := by simp)
    by_cases hn : n = 0
    · exact .inl hn
    · have := hlog hn (by omega)
      exact .inr ⟨n, 0, hn, by omega, by simp, by omega⟩

end Sys2Proof.Machine
end

section
/-! SUPPORT. The kernel's operations: NaN selection, sums, the remainder, the square root
(40_kernel_and_protocol.md R141, R145 to R151). -/

namespace Sys2Proof.Machine

/-! ## NaN selection (40_kernel_and_protocol.md R151) -/

theorem largerNan_left {s : Bool} {m : ℕ} {v : Val} (h : v.isNan = false) : largerNan (.nan s m) v = .nan s m := by
  cases v <;> first | rfl | cases h

theorem largerNan_right {s : Bool} {m : ℕ} {v : Val} (h : v.isNan = false) : largerNan v (.nan s m) = .nan s m := by
  cases v <;> first | rfl | cases h

theorem largerNan_both (s t : Bool) (m n : ℕ) :
    largerNan (.nan s m) (.nan t n) = if n < m then .nan s m else if m < n then .nan t n else .nan (s && t) m := by
  obtain h | rfl | h := lt_trichotomy m n
  · simp [largerNan, h, h.not_gt]
  · cases s <;> simp [largerNan]
  · simp [largerNan, h, h.not_gt]

theorem otherQuiet_quiet (f : Fmt) (a b : Val) :
    ∃ (s : Bool) (sig : ℕ), sig < 2 ^ f.sigBits ∧ otherQuiet f a b = .nan s (sig ||| f.defaultNan) :=
  ⟨_, _, Nat.mod_lt _ (by positivity), rfl⟩

/-- What an operation answers when an operand is a NaN: the one selected, without a flag. -/
def SelectsNan (f : Fmt) (sel : NanSelect) (op : Val → Val → Val × KFlags) : Prop :=
  ∀ a b : Val, a.isNan = true ∨ b.isNan = true → op a b = (selectNan f sel a b, KFlags.empty)

theorem Val.isNan_neg (v : Val) : v.neg.isNan = v.isNan := by cases v <;> rfl

theorem selectsNan_of {f : Fmt} {sel : NanSelect} {op : Val → Val → Val × KFlags}
    (hl : ∀ s m b, op (.nan s m) b = (selectNan f sel (.nan s m) b, KFlags.empty))
    (hr : ∀ a s m, op a (.nan s m) = (selectNan f sel a (.nan s m), KFlags.empty)) :
    SelectsNan f sel op := by
  intro a b h
  by_cases ha : a.isNan = true
  · cases a with
    | nan s m => exact hl s m b
    | zero | inf | fin => cases ha
  · cases b with
    | nan s m => exact hr a s m
    | zero | inf | fin => exact absurd (h.resolve_left ha) (by simp [Val.isNan])

theorem kAdd_selectsNan (f : Fmt) (k : KMode) : SelectsNan f k.nanSelect (kAdd f k) :=
  selectsNan_of (fun _ _ _ => rfl) fun a _ _ => by cases a <;> rfl

theorem kMul_selectsNan (f : Fmt) (k : KMode) : SelectsNan f k.nanSelect (kMul f k) :=
  selectsNan_of (fun _ _ _ => rfl) fun a _ _ => by cases a <;> rfl

theorem kDiv_selectsNan (f : Fmt) (k : KMode) : SelectsNan f k.nanSelect (kDiv f k) :=
  selectsNan_of (fun _ _ _ => rfl) fun a _ _ => by cases a <;> rfl

theorem kRem_selectsNan (k : KMode) : SelectsNan .ext k.nanSelect (kRem k) :=
  selectsNan_of (fun _ _ _ => rfl) fun a _ _ => by cases a <;> rfl

theorem nanImage_neg {v : Val} (h : v.isNan = false) : nanImage v.neg = nanImage v := by
  cases v with
  | nan => cases h
  | zero | inf | fin => rfl

/-- A number beside a NaN may as well be negated: nothing of it enters the selection. -/
theorem selectNan_neg (f : Fmt) (sel : NanSelect) (a : Val) {b : Val} (h : b.isNan = false) (ha : a.isNan = true) :
    selectNan f sel a b.neg = selectNan f sel a b := by
  cases sel with
  | largerSignificand =>
    cases a with
    | nan s m => exact (largerNan_left (b.isNan_neg.trans h)).trans (largerNan_left h).symm
    | zero | inf | fin => cases ha
  | anyQuiet => simp only [selectNan, otherQuiet, nanImage_neg h]

theorem kSub_selectsNan (f : Fmt) (k : KMode) : SelectsNan f k.nanSelect (kSub f k) := by
  intro a b h
  unfold kSub
  split
  · exact kAdd_selectsNan f k a b h
  · next hb =>
    have hb := Bool.eq_false_iff.mpr hb
    have ha := h.resolve_right (Bool.eq_false_iff.mp hb)
    rw [kAdd_selectsNan f k a b.neg (.inl ha), selectNan_neg f _ a hb ha]

/-- The default rule of R151, as an operation follows it. -/
theorem SelectsNan.default {f : Fmt} {sel : NanSelect} {op : Val → Val → Val × KFlags} (h : SelectsNan f sel op)
    (hs : sel = .largerSignificand) (s t : Bool) (m n : ℕ) :
    (∀ v : Val, v.isNan = false → op (.nan s m) v = (.nan s m, KFlags.empty) ∧
      op v (.nan s m) = (.nan s m, KFlags.empty)) ∧
    op (.nan s m) (.nan t n) =
      (if n < m then .nan s m else if m < n then .nan t n else .nan (s && t) m, KFlags.empty) := by
  subst hs
  refine ⟨fun v hv => ⟨?_, ?_⟩, ?_⟩
  · rw [h _ _ (.inl rfl), selectNan, largerNan_left hv]
  · rw [h _ _ (.inr rfl), selectNan, largerNan_right hv]
  · rw [h _ _ (.inl rfl), selectNan, largerNan_both]

/-- Any other selection is of a quiet NaN. -/
theorem SelectsNan.any {f : Fmt} {sel : NanSelect} {op : Val → Val → Val × KFlags} (h : SelectsNan f sel op)
    (hs : sel = .anyQuiet) (a b : Val) (hab : a.isNan = true ∨ b.isNan = true) :
    ∃ (s : Bool) (sig : ℕ), sig < 2 ^ f.sigBits ∧ op a b = (.nan s (sig ||| f.defaultNan), KFlags.empty) := by
  subst hs
  obtain ⟨s, sig, hsig, hq⟩ := otherQuiet_quiet f a b
  exact ⟨s, sig, hsig, by rw [h a b hab, selectNan, hq]⟩

/-! ## The operations on finite operands (R141, R145 to R147) -/

theorem roundF_isRounded_int (f : Fmt) (rm : Rm) (s : Bool) {n : ℕ} (e : ℤ) (hn : n ≠ 0) :
    IsRounded f rm s ((n : ℝ) * (2 : ℝ) ^ e) (roundF f rm s n 1 e) := by
  have h := roundF_isRounded f rm s e hn one_ne_zero
  rwa [Nat.cast_one, div_one] at h

/-- The real number of sign `s` and magnitude `m * 2^e`. -/
noncomputable def signedReal (s : Bool) (m : ℕ) (e : ℤ) : ℝ := (if s then -1 else 1) * (m * (2 : ℝ) ^ e)

theorem abs_signedReal (s : Bool) (m : ℕ) (e : ℤ) : |signedReal s m e| = m * (2 : ℝ) ^ e := by
  have h : |(if s then -1 else 1 : ℝ)| = 1 := by cases s <;> simp
  rw [signedReal, abs_mul, h, one_mul, abs_of_nonneg (by positivity)]

theorem signedAt_mul {e0 e : ℤ} (h : e0 ≤ e) (s : Bool) (m : ℕ) :
    (signedAt e0 s m e : ℝ) * (2 : ℝ) ^ e0 = signedReal s m e := by
  have hm : ((m * 2 ^ (e - e0).toNat : ℕ) : ℝ) * (2 : ℝ) ^ e0 = m * (2 : ℝ) ^ e := by
    push_cast
    rw [two_zpow_toNat (by omega), mul_assoc, two_zpow_mul, sub_add_cancel]
  rw [signedAt, signedReal, ← hm]
  cases s
  · simp
  · simp

/-- The sum of two finite values is the exact sum, rounded once. -/
theorem addFinite_spec (f : Fmt) (rm : Rm) (s t : Bool) (m n : ℕ) (e g : ℤ) :
    let x := signedReal s m e + signedReal t n g
    (0 < x → IsRounded f rm false |x| (addFinite f rm s m e t n g)) ∧
    (x < 0 → IsRounded f rm true |x| (addFinite f rm s m e t n g)) ∧
    (x = 0 → addFinite f rm s m e t n g = (.zero (zeroSumSign rm), KFlags.empty)) := by
  intro x
  have hx : ((signedAt (min e g) s m e + signedAt (min e g) t n g : ℤ) : ℝ) * (2 : ℝ) ^ min e g = x := by
    rw [Int.cast_add, add_mul, signedAt_mul (min_le_left e g), signedAt_mul (min_le_right e g)]
  unfold addFinite
  dsimp only
  generalize signedAt (min e g) s m e + signedAt (min e g) t n g = z at *
  have hp := two_zpow_pos (min e g)
  have habs : |x| = (z.natAbs : ℝ) * (2 : ℝ) ^ min e g := by
    rw [← hx, abs_mul, abs_of_pos hp, Nat.cast_natAbs, Int.cast_abs]
  have hround (hz : z ≠ 0) :
      IsRounded f rm (decide (z < 0)) |x| (roundF f rm (decide (z < 0)) z.natAbs 1 (min e g)) := by
    rw [habs]
    exact roundF_isRounded_int f rm _ _ (Int.natAbs_ne_zero.mpr hz)
  refine ⟨fun h => ?_, fun h => ?_, fun h => ?_⟩
  · have hz : 0 < z := by
      rw [← hx] at h
      exact_mod_cast (mul_pos_iff_of_pos_right hp).mp h
    have := hround hz.ne'
    rwa [if_neg hz.ne', decide_eq_false hz.not_gt] at *
  · have hz : z < 0 := by
      rw [← hx] at h
      exact_mod_cast neg_of_mul_neg_left h hp.le
    have := hround hz.ne
    rwa [if_neg hz.ne, decide_eq_true hz] at *
  · have hz : z = 0 := by
      rw [← hx, mul_eq_zero, or_iff_left hp.ne'] at h
      exact_mod_cast h
    rw [if_pos hz]

theorem zeroSumSign_eq (rm : Rm) : zeroSumSign rm = decide (rm = .rd) := by cases rm <;> rfl

/-- Zero plus a number is the number, rounded once. -/
theorem addFinite_zero_left (f : Fmt) (rm : Rm) (s t : Bool) {m : ℕ} (e : ℤ) (hm : m ≠ 0) :
    IsRounded f rm t (m * (2 : ℝ) ^ e) (addFinite f rm s 0 e t m e) := by
  have hpos : 0 < (m : ℝ) * (2 : ℝ) ^ e := by positivity
  obtain ⟨hp, hn, -⟩ := addFinite_spec f rm s t 0 m e e
  have hx : signedReal s 0 e + signedReal t m e = signedReal t m e := by simp [signedReal]
  rw [hx, abs_signedReal] at hp hn
  cases t
  · exact hp (by simpa [signedReal] using hpos)
  · exact hn (by simpa [signedReal] using hpos)

theorem addFinite_zero_right (f : Fmt) (rm : Rm) (s t : Bool) {m : ℕ} (e : ℤ) (hm : m ≠ 0) :
    IsRounded f rm t (m * (2 : ℝ) ^ e) (addFinite f rm t m e s 0 e) := by
  have hpos : 0 < (m : ℝ) * (2 : ℝ) ^ e := by positivity
  obtain ⟨hp, hn, -⟩ := addFinite_spec f rm t s m 0 e e
  have hx : signedReal t m e + signedReal s 0 e = signedReal t m e := by simp [signedReal]
  rw [hx, abs_signedReal] at hp hn
  cases t
  · exact hp (by simpa [signedReal] using hpos)
  · exact hn (by simpa [signedReal] using hpos)

/-- Sums, differences, products and quotients of two numbers. -/
theorem arithmetic_numbers (f : Fmt) (k : KMode) (s t : Bool) {m n : ℕ} (e g : ℤ) (hm : m ≠ 0) (hn : n ≠ 0) :
    IsRounded f k.rm (s != t) |signedReal s m e * signedReal t n g| (kMul f k (.fin s m e) (.fin t n g)) ∧
    IsRounded f k.rm (s != t) |signedReal s m e / signedReal t n g| (kDiv f k (.fin s m e) (.fin t n g)) := by
  constructor
  · have h := roundF_isRounded_int f k.rm (s != t) (e + g) (mul_ne_zero hm hn)
    rwa [← two_zpow_mul, Nat.cast_mul, mul_mul_mul_comm, ← abs_signedReal s, ← abs_signedReal t, ← abs_mul] at h
  · have h := roundF_isRounded f k.rm (s != t) (e - g) hm hn
    rwa [← two_zpow_div, div_mul_div_comm, ← abs_signedReal s, ← abs_signedReal t, ← abs_div] at h

/-! ## The remainder (40_kernel_and_protocol.md R150) -/

theorem kRem_fin (k : KMode) (s t : Bool) {m n x y q : ℕ} {e g : ℤ} (hx : m * 2 ^ (e - min e g).toNat = x)
    (hy : n * 2 ^ (g - min e g).toNat = y) (hq : rintDir .rn false x y = q) :
    kRem k (.fin s m e) (.fin t n g) =
      (if x = q * y then .zero s else if q * y < x then .fin s (x - q * y) (min e g)
        else .fin (!s) (q * y - x) (min e g), KFlags.empty) := by
  subst hx hy hq
  rw [apply_ite (·, KFlags.empty), apply_ite (·, KFlags.empty)]
  rfl

/-- The remainder of two numbers is exact, by the quotient rounded to nearest even. -/
theorem kRem_numbers (k : KMode) (s t : Bool) {m n : ℕ} (e g : ℤ) (hn : n ≠ 0) :
    let a : ℝ := m * (2 : ℝ) ^ e
    let b : ℝ := n * (2 : ℝ) ^ g
    let r := kRem k (.fin s m e) (.fin t n g)
    r.2 = KFlags.empty ∧ ∃ q : ℤ, IsRint .rn false (a / b) q ∧
      (q * b < a → r.1.IsMagnitude s (a - q * b)) ∧
      (a < q * b → r.1.IsMagnitude (!s) (q * b - a)) ∧
      (a = q * b → r.1 = .zero s) := by
  intro a b r
  have hp := two_zpow_pos (min e g)
  have hval (j : ℕ) {i : ℤ} (h : min e g ≤ i) :
      (j : ℝ) * (2 : ℝ) ^ i = ((j * 2 ^ (i - min e g).toNat : ℕ) : ℝ) * (2 : ℝ) ^ min e g := by
    push_cast
    rw [two_zpow_toNat (by omega), mul_assoc, two_zpow_mul, sub_add_cancel]
  have ha : a = _ := hval m (min_le_left e g)
  have hb : b = _ := hval n (min_le_right e g)
  have hy : n * 2 ^ (g - min e g).toNat ≠ 0 := by positivity
  have hr : r = _ := kRem_fin k s t rfl rfl rfl
  generalize m * 2 ^ (e - min e g).toNat = x at *
  generalize n * 2 ^ (g - min e g).toNat = y at *
  have hq := rintDir_spec .rn false x hy
  generalize rintDir .rn false x y = q at *
  have hqb : ((q : ℤ) : ℝ) * b = ((q * y : ℕ) : ℝ) * (2 : ℝ) ^ min e g := by
    rw [hb]
    push_cast
    ring
  have hlt (i j : ℕ) : (i : ℝ) * (2 : ℝ) ^ min e g < (j : ℝ) * (2 : ℝ) ^ min e g ↔ i < j := by
    rw [mul_lt_mul_iff_left₀ hp, Nat.cast_lt]
  have hsub {i j : ℕ} (h : i < j) :
      (j : ℝ) * (2 : ℝ) ^ min e g - (i : ℝ) * (2 : ℝ) ^ min e g = ((j - i : ℕ) : ℝ) * (2 : ℝ) ^ min e g := by
    rw [Nat.cast_sub h.le, sub_mul]
  refine ⟨?_, q, ?_, fun h => ?_, fun h => ?_, fun h => ?_⟩
  · rw [hr]
  · rwa [ha, hb, mul_div_mul_right _ _ hp.ne']
  all_goals rw [hqb, ha] at h
  · rw [hlt] at h
    rw [hr, if_neg (by omega), if_pos h, hqb, ha, hsub h]
    exact ⟨rfl, by omega, rfl⟩
  · rw [hlt] at h
    rw [hr, if_neg (by omega), if_neg (by omega), hqb, ha, hsub h]
    exact ⟨rfl, by omega, rfl⟩
  · have hxq : x = q * y := by exact_mod_cast mul_right_cancel₀ hp.ne' h
    rw [hr, if_pos hxq]

/-! ## The square root (40_kernel_and_protocol.md R148) -/

/-- The digits of the square root: the result is the integer root, if `acc` is that root down to bit `b`. -/
theorem isqrtFrom_spec (n b acc : ℕ) (hlo : acc * acc ≤ n) (hhi : n < (acc + 2 ^ b) * (acc + 2 ^ b)) :
    isqrtFrom n b acc * isqrtFrom n b acc ≤ n ∧ n < (isqrtFrom n b acc + 1) * (isqrtFrom n b acc + 1) := by
  induction b generalizing acc with
  | zero => exact ⟨hlo, hhi⟩
  | succ b ih =>
    rw [isqrtFrom]
    split
    · next h => exact ih _ h (by rwa [add_assoc, ← mul_two, ← pow_succ])
    · next h => exact ih _ hlo (not_le.mp h)

theorem isqrt_spec {bits n : ℕ} (h : n < 2 ^ (2 * bits)) :
    isqrt bits n * isqrt bits n ≤ n ∧ n < (isqrt bits n + 1) * (isqrt bits n + 1) :=
  isqrtFrom_spec n bits 0 (Nat.zero_le n) (by rwa [zero_add, ← pow_add, ← two_mul])

/-- Two reals that no integer tells apart. -/
def SameIntegers (a b : ℝ) : Prop := ∀ z : ℤ, ((z : ℝ) ≤ a ↔ (z : ℝ) ≤ b) ∧ (a ≤ z ↔ b ≤ z)

theorem SameIntegers.refl (a : ℝ) : SameIntegers a a := fun _ => ⟨Iff.rfl, Iff.rfl⟩

/-- Two reals strictly between the same neighbouring integers. -/
theorem sameIntegers_of_between {a b : ℝ} {r : ℤ} (ha : r < a) (ha' : a < r + 1) (hb : r < b) (hb' : b < r + 1) :
    SameIntegers a b := by
  have hle {x : ℝ} (h : (r : ℝ) < x) (h' : x < r + 1) (z : ℤ) : ((z : ℝ) ≤ x ↔ z ≤ r) ∧ (x ≤ z ↔ r + 1 ≤ z) := by
    refine ⟨⟨fun hz => ?_, fun hz => ?_⟩, fun hz => ?_, fun hz => ?_⟩
    · have : (z : ℝ) < ((r + 1 : ℤ) : ℝ) := by push_cast; linarith
      exact Int.lt_add_one_iff.mp (Int.cast_lt.mp this)
    · have : (z : ℝ) ≤ r := Int.cast_le.mpr hz
      linarith
    · have : (r : ℝ) < z := by linarith
      exact Int.add_one_le_iff.mpr (Int.cast_lt.mp this)
    · have : ((r + 1 : ℤ) : ℝ) ≤ z := Int.cast_le.mpr hz
      push_cast at this
      linarith
  exact fun z => ⟨(hle ha ha' z).1.trans (hle hb hb' z).1.symm, (hle ha ha' z).2.trans (hle hb hb' z).2.symm⟩

theorem SameIntegers.lt {a b : ℝ} (h : SameIntegers a b) (z : ℤ) : ((z : ℝ) < a ↔ (z : ℝ) < b) ∧ (a < z ↔ b < z) := by
  rw [← not_le, ← not_le, ← not_le, ← not_le]
  exact ⟨not_congr (h z).2, not_congr (h z).1⟩

theorem SameIntegers.eq {a b : ℝ} (h : SameIntegers a b) (z : ℤ) : (z : ℝ) = a ↔ (z : ℝ) = b := by
  rw [le_antisymm_iff, le_antisymm_iff, (h z).1, (h z).2]

/-- On a coarser scale no integer tells them apart either. -/
theorem SameIntegers.div {a b : ℝ} (h : SameIntegers a b) (j : ℕ) : SameIntegers (a / 2 ^ j) (b / 2 ^ j) := by
  intro z
  have hp : (0 : ℝ) < 2 ^ j := by positivity
  have hz : (z : ℝ) * 2 ^ j = ((z * 2 ^ j : ℤ) : ℝ) := by push_cast; rfl
  rw [le_div_iff₀ hp, le_div_iff₀ hp, div_le_iff₀ hp, div_le_iff₀ hp, hz]
  exact h _

/-- The rounding direction looks at half integers only. -/
theorem IsRint.congr {rm : Rm} {s : Bool} {t t' : ℝ} {n : ℤ} (h : SameIntegers (2 * t) (2 * t'))
    (hr : IsRint rm s t n) : IsRint rm s t' n := by
  have hle (z : ℤ) : ((z : ℝ) ≤ t ↔ (z : ℝ) ≤ t') ∧ (t ≤ z ↔ t' ≤ z) := by
    have := h (2 * z)
    push_cast at this
    simpa only [mul_le_mul_iff_right₀ (two_pos (α := ℝ))] using this
  have hlt := SameIntegers.lt hle
  have hn1 (x : ℝ) : x < n + 1 ↔ x < ((n + 1 : ℤ) : ℝ) := by push_cast; rfl
  have hn2 (x : ℝ) : (n : ℝ) - 1 < x ↔ ((n - 1 : ℤ) : ℝ) < x := by push_cast; rfl
  cases rm with
  | rn =>
    have hnear (x : ℝ) : |x - n| ≤ 1 / 2 ↔ ((2 * n - 1 : ℤ) : ℝ) ≤ 2 * x ∧ 2 * x ≤ ((2 * n + 1 : ℤ) : ℝ) := by
      push_cast
      rw [abs_le]
      constructor <;> rintro ⟨h1, h2⟩ <;> constructor <;> linarith
    have htie (x : ℝ) : |x - n| = 1 / 2 ↔ ((2 * n - 1 : ℤ) : ℝ) = 2 * x ∨ ((2 * n + 1 : ℤ) : ℝ) = 2 * x := by
      push_cast
      rw [abs_eq (by norm_num), or_comm]
      refine or_congr ?_ ?_ <;> constructor <;> intro h <;> linarith
    simp only [IsRint, hnear, htie] at hr ⊢
    rwa [← (h _).1, ← (h _).2, ← h.eq, ← h.eq]
  | rz => rwa [IsRint, hn1, ← (hle n).1, ← (hlt _).2, ← hn1]
  | rd | ru =>
    cases s <;> simp only [IsRint, hn1, hn2, (hle n).1, (hle n).2, (hlt _).1, (hlt _).2] at hr ⊢ <;> exact hr

/-- Two numbers that no integer tells apart, and that have more bits before the point than the format holds, are rounded
alike. -/
theorem IsRounded.congr {f : Fmt} {rm : Rm} {s : Bool} {a b : ℝ} {h : ℤ} {r : Val × KFlags} (hab : SameIntegers a b)
    (hb : (2 : ℝ) ^ f.p ≤ a) (hr : IsRounded f rm s (a * (2 : ℝ) ^ h) r) : IsRounded f rm s (b * (2 : ℝ) ^ h) r := by
  obtain ⟨e, u, y, hlo, hhi, hu, hy, hinv, hdiv, hrest⟩ := hr
  have hp := f.one_le_p
  have heh : h + f.p ≤ e := by
    have h1 : (2 : ℝ) ^ (h + f.p) ≤ a * (2 : ℝ) ^ h := by
      rw [← two_zpow_mul, mul_comm, zpow_natCast]
      gcongr
    have := two_zpow_lt.mp (h1.trans_lt hhi)
    omega
  have hpow {g : ℤ} (hg : h ≤ g) : (2 : ℝ) ^ g = ((2 ^ (g - h).toNat : ℤ) : ℝ) * (2 : ℝ) ^ h := by
    push_cast
    rw [two_zpow_toNat (by omega), two_zpow_mul, sub_add_cancel]
  have hscale {g : ℤ} (hg : h + 1 ≤ g) (x : ℝ) :
      2 * (x * (2 : ℝ) ^ h / (2 : ℝ) ^ g) = x / 2 ^ (g - h - 1).toNat := by
    rw [two_zpow_toNat (by omega), mul_div_assoc, two_zpow_div, div_eq_mul_inv, ← zpow_neg, mul_left_comm,
      ← zpow_one_add₀ two_ne_zero]
    congr 2
    ring
  have hround {g n : ℤ} (hg : h + 1 ≤ g) (hn : IsRint rm s (a * (2 : ℝ) ^ h / (2 : ℝ) ^ g) n) :
      IsRint rm s (b * (2 : ℝ) ^ h / (2 : ℝ) ^ g) n := by
    refine hn.congr ?_
    rw [hscale hg, hscale hg]
    exact hab.div _
  have hexact {g : ℤ} (hg : h ≤ g) (n : ℤ) :
      (n : ℝ) * (2 : ℝ) ^ g = a * (2 : ℝ) ^ h ↔ (n : ℝ) * (2 : ℝ) ^ g = b * (2 : ℝ) ^ h := by
    rw [hpow hg, ← mul_assoc, ← Int.cast_mul, mul_left_inj' (two_zpow_pos h).ne', mul_left_inj' (two_zpow_pos h).ne']
    exact hab.eq _
  refine ⟨e, u, y, ?_, ?_, hround (by omega) hu, hround (by omega) hy, hinv, hdiv, ?_⟩
  · rw [hpow (g := e) (by omega)] at hlo ⊢
    rw [mul_le_mul_iff_left₀ (two_zpow_pos h)] at hlo ⊢
    exact (hab _).1.mp hlo
  · rw [hpow (g := e + 1) (by omega)] at hhi ⊢
    rw [mul_lt_mul_iff_left₀ (two_zpow_pos h)] at hhi ⊢
    exact (hab.lt _).2.mp hhi
  · simp only [ne_eq, hexact (show h ≤ max e f.emin - f.p + 1 by omega)] at hrest
    exact hrest

/-- The square root of a number, through the integer root of at least 66 bits (R148). -/
theorem sqrtFinite_isRounded (rm : Rm) {m : ℕ} (e : ℤ) (hm : m ≠ 0) (h64 : m < 2 ^ 64) :
    IsRounded .ext rm false (√(m * (2 : ℝ) ^ e)) (sqrtFinite rm m e) := by
  have hlog : m.log2 < 64 := (Nat.log2_lt hm).mpr h64
  unfold sqrtFinite
  dsimp only
  generalize hpad : (if (e - ((134 - m.log2 : ℕ) : ℤ)) % 2 = 0 then 0 else 1 : ℕ) = pad
  have hpad1 : pad ≤ 1 ∧ (e - ((134 - m.log2 : ℕ) : ℤ) - pad) % 2 = 0 := by
    subst hpad
    split <;> constructor <;> omega
  obtain ⟨h, hh⟩ : ∃ h : ℤ, e = 2 * h + (134 - m.log2 + pad : ℕ) :=
    ⟨(e - ((134 - m.log2 : ℕ) : ℤ) - pad) / 2, by push_cast; omega⟩
  rw [show (e - ((134 - m.log2 : ℕ) : ℤ) - pad) / 2 = h by push_cast at hh; omega]
  have hn := mul_two_pow_bounds hm (show m.log2 + (134 - m.log2 + pad) = 134 + pad by omega)
  have hval : (m : ℝ) * (2 : ℝ) ^ e = ((m * 2 ^ (134 - m.log2 + pad) : ℕ) : ℝ) * ((2 : ℝ) ^ h) ^ 2 := by
    rw [hh, ← two_zpow_mul, two_mul, ← two_zpow_mul, zpow_natCast]
    push_cast
    ring
  rw [hval, Real.sqrt_mul (Nat.cast_nonneg _), Real.sqrt_sq (two_zpow_pos h).le]
  generalize m * 2 ^ (134 - m.log2 + pad) = n at *
  have hnlt : n < 2 ^ (2 * 70) := hn.2.trans_le (Nat.pow_le_pow_right two_pos (by omega))
  have hnge : 2 ^ 134 ≤ n := (Nat.pow_le_pow_right two_pos (by omega)).trans hn.1
  obtain ⟨hlo, hhi⟩ := isqrt_spec hnlt
  generalize isqrt 70 n = r at *
  have hr : 2 ^ 66 ≤ r := by
    by_contra hlt
    have : (r + 1) * (r + 1) ≤ 2 ^ 66 * 2 ^ 66 := Nat.mul_le_mul (by omega) (by omega)
    omega
  have hlo' : (r : ℝ) ≤ √n := Real.le_sqrt_of_sq_le (by exact_mod_cast (by rwa [sq] : r ^ 2 ≤ n))
  have hhi' : √n < (r : ℝ) + 1 := by
    rw [Real.sqrt_lt' (by positivity), sq]
    exact_mod_cast hhi
  have hsame : SameIntegers (((if r * r = n then 2 * r else 2 * r + 1 : ℕ) : ℝ) / (2 : ℕ)) √n := by
    split
    · next h =>
      rw [← h]
      push_cast
      rw [Real.sqrt_mul_self (Nat.cast_nonneg r), mul_div_cancel_left₀ _ two_ne_zero]
      exact .refl _
    · next h =>
      have hne : (r : ℝ) ≠ √n := fun he => h (by
        have := Real.mul_self_sqrt (Nat.cast_nonneg (α := ℝ) n)
        rw [← he] at this
        exact_mod_cast this)
      push_cast
      exact sameIntegers_of_between (r := r) (by push_cast; linarith) (by push_cast; linarith)
        (lt_of_le_of_ne hlo' hne) hhi'
  refine IsRounded.congr hsame ?_ (roundF_isRounded .ext rm false h ?_ two_ne_zero)
  · rw [Nat.cast_ofNat, le_div_iff₀ two_pos, show Fmt.ext.p = 64 from rfl]
    exact_mod_cast (by split <;> omega : 2 ^ 64 * 2 ≤ if r * r = n then 2 * r else 2 * r + 1)
  · split <;> omega

theorem kSqrt_fin (k : KMode) (m : ℕ) (e : ℤ) : kSqrt k (.fin false m e) = sqrtFinite k.rm m e := by
  simp only [kSqrt, Bool.false_eq_true, if_false]

end Sys2Proof.Machine
end

section
/-! SUPPORT. The narrow formats: the fields of an interchange word, what rounding to a format answers, narrowing and
widening (40_kernel_and_protocol.md R138, R152, R153). -/

namespace Sys2Proof.Machine

/-! ## The fields of an interchange word (40_kernel_and_protocol.md R138) -/

/-- A word by its sign, its exponent field and its fraction. -/
def narrowWord (fb eb : ℕ) (s : Bool) (ex frac : ℕ) : ℕ := signBit s * 2 ^ (fb + eb) + ex * 2 ^ fb + frac

theorem decide_signBit (s : Bool) : decide (signBit s = 1) = s := by cases s <;> rfl

section fields
variable {fb eb ex frac : ℕ} {s : Bool}

theorem narrowWord_lt (hex : ex < 2 ^ eb) (hfrac : frac < 2 ^ fb) :
    narrowWord fb eb s ex frac < 2 ^ (fb + eb + 1) := by
  have h1 : (ex + 1) * 2 ^ fb ≤ 2 ^ eb * 2 ^ fb := Nat.mul_le_mul_right _ hex
  have h2 : signBit s * 2 ^ (fb + eb) ≤ 1 * 2 ^ (fb + eb) := Nat.mul_le_mul_right _ (signBit_le_one s)
  rw [add_one_mul, ← pow_add, add_comm eb] at h1
  rw [narrowWord, pow_succ]
  omega

theorem narrowWord_eq (fb eb : ℕ) (s : Bool) (ex frac : ℕ) :
    narrowWord fb eb s ex frac = frac + (ex + signBit s * 2 ^ eb) * 2 ^ fb := by
  rw [narrowWord, pow_add]
  ring

/-- The three fields of a word are read back. -/
theorem narrowWord_fields (hex : ex < 2 ^ eb) (hfrac : frac < 2 ^ fb) :
    narrowWord fb eb s ex frac % 2 ^ fb = frac ∧ narrowWord fb eb s ex frac / 2 ^ fb % 2 ^ eb = ex ∧
      decide (narrowWord fb eb s ex frac / 2 ^ (fb + eb) % 2 = 1) = s := by
  have hdiv : narrowWord fb eb s ex frac / 2 ^ fb = ex + signBit s * 2 ^ eb := by
    rw [narrowWord_eq, Nat.add_mul_div_right _ _ (by positivity), Nat.div_eq_of_lt hfrac, zero_add]
  refine ⟨?_, ?_, ?_⟩
  · rw [narrowWord_eq, Nat.add_mul_mod_self_right, Nat.mod_eq_of_lt hfrac]
  · rw [hdiv, Nat.add_mul_mod_self_right, Nat.mod_eq_of_lt hex]
  · have := signBit_le_one s
    rw [pow_add, ← Nat.div_div_eq_div_mul, hdiv, Nat.add_mul_div_right _ _ (by positivity), Nat.div_eq_of_lt hex,
      zero_add, Nat.mod_eq_of_lt (by omega), decide_signBit]

/-- Every word is made of its fields. -/
theorem eq_narrowWord {w : ℕ} (h : w < 2 ^ (fb + eb + 1)) :
    w = narrowWord fb eb (decide (w / 2 ^ (fb + eb) % 2 = 1)) (w / 2 ^ fb % 2 ^ eb) (w % 2 ^ fb) := by
  have hs : signBit (decide (w / 2 ^ (fb + eb) % 2 = 1)) = w / 2 ^ fb / 2 ^ eb := by
    have h2 : w / 2 ^ fb / 2 ^ eb < 2 := by
      rw [Nat.div_div_eq_div_mul, ← pow_add, Nat.div_lt_iff_lt_mul (by positivity), ← pow_succ']
      exact h
    rw [pow_add, ← Nat.div_div_eq_div_mul]
    generalize w / 2 ^ fb / 2 ^ eb = q at h2 ⊢
    simp only [signBit, decide_eq_true_eq]
    split <;> omega
  rw [narrowWord_eq, hs, Nat.mod_add_div', Nat.mod_add_div']

/-- The class of a word by its fields. -/
theorem unpackNarrow_narrowWord (hex : ex < 2 ^ eb) (hfrac : frac < 2 ^ fb) :
    unpackNarrow fb eb (narrowWord fb eb s ex frac) =
      if ex = 2 ^ eb - 1 then (if frac = 0 then .inf s else .nan s frac)
      else if ex = 0 then (if frac = 0 then .zero s else .fin s frac (1 - (2 ^ (eb - 1) - 1) - fb))
      else .fin s (2 ^ fb + frac) ((ex : ℤ) - (2 ^ (eb - 1) - 1) - fb) := by
  obtain ⟨h1, h2, h3⟩ := narrowWord_fields (s := s) hex hfrac
  simp only [unpackNarrow, h1, h2, h3]

end fields

/-! ## The narrow formats -/

/-- The parameters of an interchange format with `fb` fraction bits and `eb` exponent bits (R138). -/
structure Fmt.IsNarrow (f : Fmt) (fb eb : ℕ) : Prop where
  p : f.p = fb + 1
  emax : f.emax = 2 ^ (eb - 1) - 1
  emin : f.emin = 1 - f.emax
  fb_pos : 1 ≤ fb
  eb_pos : 2 ≤ eb
  nan : f.defaultNan = 2 ^ (fb - 1)

theorem isNarrow_f32 : Fmt.f32.IsNarrow 23 8 := ⟨rfl, rfl, rfl, by decide, by decide, rfl⟩
theorem isNarrow_f64 : Fmt.f64.IsNarrow 52 11 := ⟨rfl, rfl, rfl, by decide, by decide, rfl⟩

/-- A magnitude that a format holds, written with the significand within its precision. -/
structure Fmt.Holds (f : Fmt) (n : ℕ) (k : ℤ) : Prop where
  ne_zero : n ≠ 0
  lt : n < 2 ^ f.p
  emin_le : f.emin - f.p + 1 ≤ k
  le_emax : (n.log2 : ℤ) + k ≤ f.emax

section narrow
variable {f : Fmt} {fb eb : ℕ} (hf : f.IsNarrow fb eb)
include hf

/-- The exponent field of all ones. -/
theorem Fmt.IsNarrow.top_exponent : ((2 ^ eb - 1 : ℕ) : ℤ) = 2 * f.emax + 1 := by
  obtain ⟨b, hb⟩ : ∃ b, eb = b + 1 := ⟨eb - 1, by have := hf.eb_pos; omega⟩
  subst hb
  rw [hf.emax, Nat.cast_sub Nat.one_le_two_pow, Nat.add_sub_cancel, pow_succ]
  push_cast
  ring

theorem Fmt.IsNarrow.emax_pos : 1 ≤ f.emax := by
  rw [hf.emax]
  have h : (2 : ℤ) ^ 1 ≤ 2 ^ (eb - 1) := pow_le_pow_right₀ (by decide) (by have := hf.eb_pos; omega)
  omega

/-- What is encoded of a number, and that it is the same number when it is read back. -/
theorem packNarrow_holds {n : ℕ} {k : ℤ} (s : Bool) (h : f.Holds n k) :
    ∃ ex frac, ex < 2 ^ eb ∧ frac < 2 ^ fb ∧ packNarrow fb eb (.fin s n k) = narrowWord fb eb s ex frac ∧
      (unpackNarrow fb eb (narrowWord fb eb s ex frac)).IsMagnitude s (n * (2 : ℝ) ^ k) := by
  have htop := hf.top_exponent
  have hemax := hf.emax_pos
  have hlog : n.log2 < fb + 1 := (Nat.log2_lt h.ne_zero).mpr (hf.p ▸ h.lt)
  have hk : 1 - f.emax - fb ≤ k := by have := h.emin_le; rw [hf.emin, hf.p] at this; push_cast at this; omega
  have hle := h.le_emax
  have hval (j : ℕ) : (n : ℝ) * (2 : ℝ) ^ k = ((n * 2 ^ j : ℕ) : ℝ) * (2 : ℝ) ^ (k - j) := by
    push_cast
    rw [mul_assoc, ← zpow_natCast, two_zpow_mul, add_sub_cancel]
  by_cases hnorm : 1 - f.emax ≤ n.log2 + k
  · obtain ⟨hlo, hhi⟩ := mul_two_pow_bounds h.ne_zero (by omega : n.log2 + (fb - n.log2) = fb)
    have hfrac : n * 2 ^ (fb - n.log2) % 2 ^ fb = n * 2 ^ (fb - n.log2) - 2 ^ fb := by
      rw [Nat.mod_eq_sub_mod hlo, Nat.mod_eq_of_lt (by omega)]
    have hex : ((n.log2 : ℤ) + k + f.emax).toNat < 2 ^ eb := by omega
    have hfl : n * 2 ^ (fb - n.log2) % 2 ^ fb < 2 ^ fb := Nat.mod_lt _ (by positivity)
    refine ⟨((n.log2 : ℤ) + k + f.emax).toNat, n * 2 ^ (fb - n.log2) % 2 ^ fb, hex, hfl, ?_, ?_⟩
    · have hscale : scale n (k + fb - (n.log2 + k)) = n * 2 ^ (fb - n.log2) := by
        rw [scale_of_nonneg n (by omega)]
        congr 2
        omega
      simp only [packNarrow, floorLog2, ← hf.emax, if_pos hnorm, hscale]
      rfl
    · rw [unpackNarrow_narrowWord hex hfl, if_neg (by omega), if_neg (by omega), ← hf.emax, hfrac,
        Nat.add_sub_cancel' hlo]
      refine ⟨rfl, mul_ne_zero h.ne_zero (by positivity), ?_⟩
      rw [hval (fb - n.log2)]
      congr 2
      omega
  · have hfl : n * 2 ^ (k + f.emax - 1 + fb).toNat < 2 ^ fb :=
      calc n * 2 ^ (k + f.emax - 1 + fb).toNat < 2 ^ (n.log2 + (k + f.emax - 1 + fb).toNat + 1) :=
            (mul_two_pow_bounds h.ne_zero rfl).2
        _ ≤ 2 ^ fb := Nat.pow_le_pow_right two_pos (by omega)
    refine ⟨0, n * 2 ^ (k + f.emax - 1 + fb).toNat, by positivity, hfl, ?_, ?_⟩
    · simp only [packNarrow, floorLog2, ← hf.emax, if_neg hnorm, scale_of_nonneg n (by omega : 0 ≤ k + f.emax - 1 + fb)]
      rfl
    · have hne : n * 2 ^ (k + f.emax - 1 + fb).toNat ≠ 0 := mul_ne_zero h.ne_zero (by positivity)
      rw [unpackNarrow_narrowWord (by positivity) hfl, if_neg (by omega), if_pos rfl, if_neg hne, ← hf.emax]
      refine ⟨rfl, hne, ?_⟩
      rw [hval (k + f.emax - 1 + fb).toNat]
      congr 2
      omega

/-- A word that is no NaN holds an infinity, a zero or a number of its format. -/
theorem unpackNarrow_cases {s : Bool} {ex frac : ℕ} (hex : ex < 2 ^ eb) (hfrac : frac < 2 ^ fb)
    (hn : ex ≠ 2 ^ eb - 1) (hz : ¬ (ex = 0 ∧ frac = 0)) :
    unpackNarrow fb eb (narrowWord fb eb s ex frac) =
        .fin s ((if ex = 0 then 0 else 2 ^ fb) + frac) ((max ex 1 : ℕ) - f.emax - fb) ∧
      f.Holds ((if ex = 0 then 0 else 2 ^ fb) + frac) ((max ex 1 : ℕ) - f.emax - fb) ∧
      packNarrow fb eb (.fin s ((if ex = 0 then 0 else 2 ^ fb) + frac) ((max ex 1 : ℕ) - f.emax - fb)) =
        narrowWord fb eb s ex frac := by
  have htop := hf.top_exponent
  have hemax := hf.emax_pos
  have hp := hf.p
  have hemin := hf.emin
  rw [unpackNarrow_narrowWord hex hfrac, if_neg hn, ← hf.emax]
  by_cases h0 : ex = 0
  · have hne : frac ≠ 0 := fun h => hz ⟨h0, h⟩
    have hlog : frac.log2 < fb := (Nat.log2_lt hne).mpr hfrac
    subst h0
    simp only [if_true, zero_add, if_neg hne, Nat.zero_max, Nat.cast_one, true_and]
    refine ⟨⟨hne, ?_, by push_cast [hp, hemin]; omega, by omega⟩, ?_⟩
    · rw [hp, pow_succ]; omega
    · simp only [packNarrow, floorLog2, ← hf.emax, if_neg (by omega : ¬ (1 - f.emax ≤ frac.log2 + (1 - f.emax - fb))),
        show 1 - f.emax - fb + f.emax - 1 + fb = 0 by ring, scale_of_nonneg _ le_rfl]
      simp [narrowWord]
  · have hlog : (2 ^ fb + frac).log2 = fb := by
      rw [Nat.log2_eq_iff (by positivity), pow_succ]
      omega
    simp only [if_neg h0, max_eq_left (by omega : 1 ≤ ex), true_and]
    refine ⟨⟨by positivity, ?_, by push_cast [hp, hemin]; omega, by rw [hlog]; omega⟩, ?_⟩
    · rw [hp, pow_succ]; omega
    · simp only [packNarrow, floorLog2, hlog, ← hf.emax, show (fb : ℤ) + (ex - f.emax - fb) = ex - f.emax by ring,
        if_pos (by omega : 1 - f.emax ≤ ex - f.emax), sub_add_cancel, sub_self, Int.toNat_natCast,
        scale_of_nonneg _ le_rfl]
      simp [narrowWord, Nat.mod_eq_of_lt hfrac]

end narrow

/-! ## Numbers of a format, rounded -/

section values
variable {f : Fmt} {rm : Rm} {s : Bool} {x : ℝ} {r : Val × KFlags}

/-- The exponent of the leading bit of a number of a format. -/
theorem Fmt.Holds.leading {n : ℕ} {k : ℤ} (h : f.Holds n k) :
    (2 : ℝ) ^ ((n.log2 : ℤ) + k) ≤ n * (2 : ℝ) ^ k ∧ n * (2 : ℝ) ^ k < (2 : ℝ) ^ ((n.log2 : ℤ) + k + 1) :=
  floorLog2_spec h.ne_zero k

theorem Fmt.Holds.log2_lt {n : ℕ} {k : ℤ} (h : f.Holds n k) : n.log2 < f.p := (Nat.log2_lt h.ne_zero).mpr h.lt

/-- A number of the format is rounded to itself, without a flag. -/
theorem IsRounded.exact {n : ℕ} {k : ℤ} (h : f.Holds n k) (hr : IsRounded f rm s (n * (2 : ℝ) ^ k) r) :
    r.1.IsMagnitude s (n * (2 : ℝ) ^ k) ∧ r.2 = KFlags.empty := by
  obtain ⟨e, u, y, hlo, hhi, -, hy, hinv, hdiv, hrest⟩ := hr
  obtain ⟨hl, hl'⟩ := h.leading
  obtain rfl := two_zpow_unique hl hl' hlo hhi
  have hlog := h.log2_lt
  have hemin := h.emin_le
  have hemax := h.le_emax
  generalize hK : max ((n.log2 : ℤ) + k) f.emin - f.p + 1 = K at *
  have hint : (n : ℝ) * (2 : ℝ) ^ k / (2 : ℝ) ^ K = ((n * 2 ^ (k - K).toNat : ℕ) : ℤ) := by
    push_cast
    rw [two_zpow_toNat (by omega), mul_div_assoc, two_zpow_div]
  rw [hint] at hy
  have hyx : (y : ℝ) * (2 : ℝ) ^ K = n * (2 : ℝ) ^ k := by
    rw [hy.eq_of_int, ← hint, div_mul_cancel₀ _ (two_zpow_pos K).ne']
  have hin : ¬ (2 : ℝ) ^ (f.emax + 1) ≤ y * (2 : ℝ) ^ K := by
    rw [hyx, not_le]
    exact hl'.trans_le (two_zpow_le.mpr (by omega))
  rw [if_neg hin, hyx] at hrest
  obtain ⟨hmag, hov, hinx, hund⟩ := hrest
  have hinx' : r.2.inexact = false := Bool.eq_false_iff.mpr fun h => hinx.mp h rfl
  have hund' : r.2.underflow = false := Bool.eq_false_iff.mpr fun h => by simp [hinx'] at hund; simp [hund] at h
  refine ⟨hmag, ?_⟩
  obtain ⟨v, fl⟩ := r
  cases fl
  simp_all [KFlags.empty]

/-- A value of a format that is no NaN. -/
def Fmt.IsValue (f : Fmt) (s : Bool) (v : Val) : Prop :=
  v = .inf s ∨ v = .zero s ∨ ∃ n k m e, f.Holds n k ∧ m ≠ 0 ∧ v = .fin s m e ∧ (m : ℝ) * (2 : ℝ) ^ e = n * (2 : ℝ) ^ k

theorem isValue_of_magnitude {v : Val} {n : ℕ} {k : ℤ} (h : f.Holds n k) (hv : v.IsMagnitude s (n * (2 : ℝ) ^ k)) :
    f.IsValue s v := by
  have hne : (n : ℝ) * (2 : ℝ) ^ k ≠ 0 := by have := h.ne_zero; positivity
  cases v with
  | zero t => exact absurd hv.2 hne
  | fin t m e =>
    obtain ⟨rfl, hm, hx⟩ := hv
    exact .inr (.inr ⟨n, k, m, e, h, hm, rfl, hx.symm⟩)
  | inf | nan => exact hv.elim

/-- The largest finite value of a format is one of its numbers. -/
theorem Fmt.holds_largest (f : Fmt) : f.Holds (2 ^ f.p - 1) (f.emax - f.p + 1) := by
  cases f <;> refine ⟨by decide, by decide, by decide, ?_⟩ <;> decide

/-- A significand within the precision, or its carry out, at an exponent within the range, is a magnitude of the
format. -/
theorem holds_of_significand {n : ℕ} {K : ℤ} (hn : n ≠ 0) (hnp : n ≤ 2 ^ f.p) (hK : f.emin - f.p + 1 ≤ K)
    (hlt : (n : ℝ) * (2 : ℝ) ^ K < (2 : ℝ) ^ (f.emax + 1)) :
    ∃ (m : ℕ) (k : ℤ), f.Holds m k ∧ (n : ℝ) * (2 : ℝ) ^ K = m * (2 : ℝ) ^ k := by
  have hp := f.one_le_p
  have hlead := two_zpow_lt.mp ((floorLog2_spec hn K).1.trans_lt hlt)
  rw [floorLog2] at hlead
  by_cases hc : n = 2 ^ f.p
  · rw [hc, Nat.log2_two_pow] at hlead
    refine ⟨2 ^ (f.p - 1), K + 1, ⟨by positivity, Nat.pow_lt_pow_right one_lt_two (by omega), by omega, ?_⟩, ?_⟩
    · rw [Nat.log2_two_pow]
      omega
    · rw [hc]
      push_cast
      rw [← zpow_natCast, ← zpow_natCast, two_zpow_mul, two_zpow_mul]
      congr 1
      omega
  · exact ⟨n, K, ⟨hn, by omega, hK, by omega⟩, rfl⟩

theorem isValue_of_magnitude_zero {v : Val} (hv : v.IsMagnitude s 0) : f.IsValue s v := by
  cases v with
  | zero t => exact .inr (.inl (by rw [hv.1]))
  | fin t m e => exact absurd hv.2.2 (by have := hv.2.1; positivity)
  | inf | nan => exact hv.elim

/-- What rounding answers is a value of the format. -/
theorem IsRounded.isValue (hr : IsRounded f rm s x r) : f.IsValue s r.1 := by
  obtain ⟨e, u, y, hlo, hhi, -, hy, -, -, hrest⟩ := hr
  split at hrest
  · obtain ⟨-, -, -, hv⟩ := hrest
    split at hv
    · exact .inl hv
    · rw [f.largest] at hv
      exact isValue_of_magnitude f.holds_largest hv
  · next hin =>
    obtain ⟨hmag, -⟩ := hrest
    generalize hK : max e f.emin - f.p + 1 = K at *
    have hx : 0 ≤ x := (two_zpow_pos e).le.trans hlo
    have hy0 : 0 ≤ y := hy.le_of_le (by push_cast; positivity)
    have hyp : y ≤ (2 ^ f.p : ℕ) := hy.ge_of_ge (by
      rw [div_le_iff₀ (two_zpow_pos K)]
      push_cast
      rw [← zpow_natCast, two_zpow_mul]
      exact hhi.le.trans (two_zpow_le.mpr (by omega)))
    obtain ⟨n, rfl⟩ := Int.eq_ofNat_of_zero_le hy0
    rw [Int.cast_natCast] at hmag hin
    by_cases hn : n = 0
    · rw [hn, Nat.cast_zero, zero_mul] at hmag
      exact isValue_of_magnitude_zero hmag
    · obtain ⟨m, k, hh, hval⟩ := holds_of_significand hn (by exact_mod_cast hyp) (by omega) (not_le.mp hin)
      rw [hval] at hmag
      exact isValue_of_magnitude hh hmag

/-- Whether a result is a rounding depends on its value alone. -/
theorem IsRounded.of_value {v : Val} (hr : IsRounded f rm s x r) (hinf : r.1 = .inf s → v = .inf s)
    (hmag : ∀ y, r.1.IsMagnitude s y → v.IsMagnitude s y) : IsRounded f rm s x (v, r.2) := by
  obtain ⟨e, u, y, hlo, hhi, hu, hy, hinv, hdiv, hrest⟩ := hr
  refine ⟨e, u, y, hlo, hhi, hu, hy, hinv, hdiv, ?_⟩
  split at hrest
  · next h =>
    rw [if_pos h]
    obtain ⟨ho, hun, hi, hv⟩ := hrest
    refine ⟨ho, hun, hi, ?_⟩
    split at hv
    · next hm => rw [if_pos hm]; exact hinf hv
    · next hm => rw [if_neg hm]; exact hmag _ hv
  · next h =>
    rw [if_neg h]
    obtain ⟨hm, hflags⟩ := hrest
    exact ⟨hmag _ hm, hflags⟩

/-! ## Narrow words and values -/

variable {fb eb : ℕ}

/-- The classes without a number of a narrow format are packed and unpacked field by field. -/
theorem packNarrow_special (fb eb : ℕ) (s : Bool) (sig : ℕ) :
    packNarrow fb eb (.zero s) = narrowWord fb eb s 0 0 ∧
    packNarrow fb eb (.inf s) = narrowWord fb eb s (2 ^ eb - 1) 0 ∧
    packNarrow fb eb (.nan s sig) = narrowWord fb eb s (2 ^ eb - 1) (sig % 2 ^ fb) := ⟨rfl, rfl, rfl⟩

/-- A value of a narrow format is what it was when it is packed and unpacked. -/
theorem Fmt.IsValue.unpack_pack (hf : f.IsNarrow fb eb) {v : Val} (hv : f.IsValue s v) :
    packNarrow fb eb v < 2 ^ (fb + eb + 1) ∧ (v = .inf s → unpackNarrow fb eb (packNarrow fb eb v) = .inf s) ∧
      ∀ y, v.IsMagnitude s y → (unpackNarrow fb eb (packNarrow fb eb v)).IsMagnitude s y := by
  have heb := hf.eb_pos
  have htop : 2 ^ eb - 1 < 2 ^ eb := Nat.sub_lt (by positivity) one_pos
  have h0 : 0 < 2 ^ fb := by positivity
  have hpow : 2 ^ 2 ≤ 2 ^ eb := Nat.pow_le_pow_right two_pos heb
  obtain rfl | rfl | ⟨n, k, m, e, hh, hm, rfl, hval⟩ := hv
  · have hu : unpackNarrow fb eb (narrowWord fb eb s (2 ^ eb - 1) 0) = .inf s := by
      rw [unpackNarrow_narrowWord htop h0, if_pos rfl, if_pos rfl]
    exact ⟨narrowWord_lt htop h0, fun _ => hu, fun _ hy => hy.elim⟩
  · have hu : unpackNarrow fb eb (narrowWord fb eb s 0 0) = .zero s := by
      rw [unpackNarrow_narrowWord (by positivity) h0, if_neg (by omega), if_pos rfl, if_pos rfl]
    refine ⟨narrowWord_lt (by positivity) h0, nofun, fun y hy => ?_⟩
    rw [(packNarrow_special fb eb s 0).1, hu]
    exact hy
  · obtain ⟨ex, frac, hex, hfrac, hpack, hmag⟩ := packNarrow_holds hf s hh
    rw [packNarrow_fin_congr fb eb s hm hh.ne_zero hval, hpack]
    refine ⟨narrowWord_lt hex hfrac, nofun, fun y hy => ?_⟩
    rw [hy.2.2, hval]
    exact hmag

end values

/-! ## Narrowing (40_kernel_and_protocol.md R152) -/

section words
variable {f : Fmt} {fb eb : ℕ} {s : Bool}

theorem narrow_number {f : Fmt} (rm : Rm) {a : Fx80} {x : ℝ} (h : IsNumber a s x) :
    IsRounded f rm s x (narrow f rm a) := by
  have hx : x = _ := h.abs
  rw [narrow, h.unpack, hx]
  exact roundF_isRounded_int f rm s _ h.low_ne_zero

theorem narrow_zero (f : Fmt) (rm : Rm) {a : Fx80} (h : a.isZero = true) :
    narrow f rm a = (.zero a.sign, KFlags.empty) := by
  rw [narrow, unpackExt_zero h]

theorem narrow_inf (f : Fmt) (rm : Rm) {a : Fx80} (h : a.isInf = true) :
    narrow f rm a = (.inf a.sign, KFlags.empty) := by
  rw [narrow, unpackExt_inf h]

theorem narrow_nan (f : Fmt) (rm : Rm) {a : Fx80} (h : a.isNan = true) :
    narrow f rm a = (.nan a.sign (f.defaultNan ||| a.low.toNat % 2 ^ 63 / 2 ^ (63 - f.sigBits)), KFlags.empty) := by
  rw [narrow, unpackExt_nan h]

theorem kToF32_eq (rm : Rm) (a : Fx80) : kToF32 rm a = (packF32 (narrow .f32 rm a).1, (narrow .f32 rm a).2) := rfl

theorem kToF64_eq (rm : Rm) (a : Fx80) : kToF64 rm a = (packF64 (narrow .f64 rm a).1, (narrow .f64 rm a).2) := rfl

theorem kToF32_isRounded {rm : Rm} {a : Fx80} {x : ℝ} (h : IsNumber a s x) :
    IsRounded .f32 rm s x (unpackF32 (kToF32 rm a).1, (kToF32 rm a).2) := by
  have hr := narrow_number (f := .f32) rm h
  obtain ⟨hlt, hinf, hmag⟩ := hr.isValue.unpack_pack isNarrow_f32
  rw [kToF32_eq, unpackF32, packF32, BitVec.toNat_ofNat, Nat.mod_eq_of_lt hlt]
  exact hr.of_value hinf hmag

theorem kToF64_isRounded {rm : Rm} {a : Fx80} {x : ℝ} (h : IsNumber a s x) :
    IsRounded .f64 rm s x (unpackF64 (kToF64 rm a).1, (kToF64 rm a).2) := by
  have hr := narrow_number (f := .f64) rm h
  obtain ⟨hlt, hinf, hmag⟩ := hr.isValue.unpack_pack isNarrow_f64
  rw [kToF64_eq, unpackF64, packF64, BitVec.toNat_ofNat, Nat.mod_eq_of_lt hlt]
  exact hr.of_value hinf hmag

/-- A NaN made quiet, packed and unpacked (R152). -/
theorem packNarrow_nan (hf : f.IsNarrow fb eb) (s : Bool) {t : ℕ} (ht : t < 2 ^ fb) :
    packNarrow fb eb (.nan s (f.defaultNan ||| t)) =
        (signBit s * 2 ^ eb + (2 ^ eb - 1)) * 2 ^ fb ||| f.defaultNan ||| t ∧
      unpackNarrow fb eb (packNarrow fb eb (.nan s (f.defaultNan ||| t)) % 2 ^ (fb + eb + 1)) =
        .nan s (f.defaultNan ||| t) := by
  have hlt : f.defaultNan ||| t < 2 ^ fb := by
    refine Nat.or_lt_two_pow ?_ ht
    rw [hf.nan]
    exact Nat.pow_lt_pow_right one_lt_two (by have := hf.fb_pos; omega)
  have hne : f.defaultNan ||| t ≠ 0 := fun h => by
    have := (Nat.or_eq_zero_iff.mp h).1
    rw [hf.nan] at this
    exact absurd this (by positivity)
  have hex : 2 ^ eb - 1 < 2 ^ eb := Nat.sub_lt (by positivity) one_pos
  rw [(packNarrow_special fb eb s _).2.2, Nat.mod_eq_of_lt hlt]
  constructor
  · rw [narrowWord_eq, add_comm, mul_comm, Nat.two_pow_add_eq_or_of_lt hlt, ← Nat.or_assoc, mul_comm (2 ^ fb),
      add_comm (2 ^ eb - 1)]
  · rw [Nat.mod_eq_of_lt (narrowWord_lt hex hlt), unpackNarrow_narrowWord hex hlt, if_pos rfl, if_neg hne]

/-- The NaN of binary32 by the 23 bits of its fraction. -/
theorem packF32_nan (s : Bool) (t : BitVec 23) :
    packF32 (.nan s (Fmt.f32.defaultNan ||| t.toNat)) =
        (if s then 0x80000000#32 else 0#32) ||| 0x7FC00000#32 ||| t.setWidth 32 ∧
      unpackF32 (packF32 (.nan s (Fmt.f32.defaultNan ||| t.toNat))) = .nan s (Fmt.f32.defaultNan ||| t.toNat) := by
  obtain ⟨hpack, hunpack⟩ := packNarrow_nan isNarrow_f32 s t.isLt
  have hfixed : BitVec.ofNat 32 ((signBit s * 2 ^ 8 + (2 ^ 8 - 1)) * 2 ^ 23 ||| Fmt.f32.defaultNan) =
      (if s then 0x80000000#32 else 0#32) ||| 0x7FC00000#32 := by cases s <;> decide
  constructor
  · rw [packF32, hpack, BitVec.ofNat_or, BitVec.ofNat_toNat, hfixed]
  · rw [unpackF32, packF32, BitVec.toNat_ofNat]
    exact hunpack

/-- The NaN of binary64 by the 52 bits of its fraction. -/
theorem packF64_nan (s : Bool) (t : BitVec 52) :
    packF64 (.nan s (Fmt.f64.defaultNan ||| t.toNat)) =
        (if s then 0x8000000000000000#64 else 0#64) ||| 0x7FF8000000000000#64 ||| t.setWidth 64 ∧
      unpackF64 (packF64 (.nan s (Fmt.f64.defaultNan ||| t.toNat))) = .nan s (Fmt.f64.defaultNan ||| t.toNat) := by
  obtain ⟨hpack, hunpack⟩ := packNarrow_nan isNarrow_f64 s t.isLt
  have hfixed : BitVec.ofNat 64 ((signBit s * 2 ^ 11 + (2 ^ 11 - 1)) * 2 ^ 52 ||| Fmt.f64.defaultNan) =
      (if s then 0x8000000000000000#64 else 0#64) ||| 0x7FF8000000000000#64 := by cases s <;> decide
  constructor
  · rw [packF64, hpack, BitVec.ofNat_or, BitVec.ofNat_toNat, hfixed]
  · rw [unpackF64, packF64, BitVec.toNat_ofNat]
    exact hunpack

/-- The top bits of a fraction. -/
theorem top_of_fraction {j b : ℕ} (w : BitVec 64) (h : j + b = 63) :
    w.toNat % 2 ^ 63 / 2 ^ j = (w.extractLsb' j b).toNat := by
  rw [BitVec.extractLsb'_toNat, Nat.shiftRight_eq_div_pow, ← h, pow_add, Nat.mod_mul_right_div_self]

/-! ## Widening (40_kernel_and_protocol.md R153) -/

/-- The extended format holds every number of each format. -/
theorem Fmt.Holds.ext {n : ℕ} {k : ℤ} (h : f.Holds n k) : Fmt.ext.Holds n k := by
  obtain ⟨hne, hlt, hmin, hmax⟩ := h
  cases f
  · exact ⟨hne, hlt, hmin, hmax⟩
  all_goals
    simp only [Fmt.p, Fmt.emin, Fmt.emax] at hlt hmin hmax
    exact ⟨hne, by simp only [Fmt.p]; omega, by simp only [Fmt.p, Fmt.emin]; omega, by simp only [Fmt.emax]; omega⟩

theorem packExt_holds {n : ℕ} {k : ℤ} (s : Bool) (h : Fmt.ext.Holds n k) :
    IsNumber (packExt (.fin s n k)) s (n * (2 : ℝ) ^ k) :=
  (packExt_fin_isNumber s h.ne_zero h.lt h.emin_le h.le_emax).1

theorem packExt_zero_fields (s : Bool) : (packExt (.zero s)).sign = s ∧ (packExt (.zero s)).isZero = true ∧
    (packExt (.zero s)).isUnsupported = false ∧ (packExt (.zero s)).low = 0#64 := by cases s <;> decide

theorem packExt_inf_fields (s : Bool) : (packExt (.inf s)).sign = s ∧ (packExt (.inf s)).isInf = true := by
  cases s <;> decide

theorem widen_eq (f : Fmt) {v : Val} (h : v.isNan = false) : widen f v = packExt v := by
  cases v with
  | nan => cases h
  | zero | inf | fin => rfl

section narrow
variable (hf : f.IsNarrow fb eb) {ex frac : ℕ} (hex : ex < 2 ^ eb) (hfrac : frac < 2 ^ fb)
include hf hex hfrac

/-- Widening a word that is no NaN and no infinity is exact. -/
theorem widen_word (hn : ex ≠ 2 ^ eb - 1) {x : ℝ}
    (hx : x = (((if ex = 0 then 0 else 2 ^ fb) + frac : ℕ) : ℝ) * (2 : ℝ) ^ ((max ex 1 : ℕ) - f.emax - fb : ℤ)) :
    (unpackNarrow fb eb (narrowWord fb eb s ex frac)).IsMagnitude s x ∧
      fxIsAbs (widen f (unpackNarrow fb eb (narrowWord fb eb s ex frac))) x ∧
      (widen f (unpackNarrow fb eb (narrowWord fb eb s ex frac))).sign = s ∧
      (widen f (unpackNarrow fb eb (narrowWord fb eb s ex frac))).isUnsupported = false := by
  by_cases hz : ex = 0 ∧ frac = 0
  · obtain ⟨rfl, rfl⟩ := hz
    obtain ⟨hs, -, hu, hl⟩ := packExt_zero_fields s
    rw [unpackNarrow_narrowWord hex hfrac, if_neg hn, if_pos rfl, if_pos rfl]
    have hx0 : x = 0 := by rw [hx]; simp
    exact ⟨⟨rfl, hx0⟩, by rw [widen_eq f rfl, fxIsAbs, hl, hx0]; simp, hs, hu⟩
  · obtain ⟨hu, hh, -⟩ := unpackNarrow_cases hf (s := s) hex hfrac hn hz
    have hv := packExt_holds s hh.ext
    rw [hu, hx]
    exact ⟨⟨rfl, hh.ne_zero, rfl⟩, hv.abs, hv.sign, hv.supported⟩

/-- A word that is no NaN is the same after widening and narrowing. -/
theorem narrow_widen_word (rm : Rm) (hnan : ex = 2 ^ eb - 1 → frac = 0) :
    packNarrow fb eb (narrow f rm (widen f (unpackNarrow fb eb (narrowWord fb eb s ex frac)))).1 =
        narrowWord fb eb s ex frac ∧
      (narrow f rm (widen f (unpackNarrow fb eb (narrowWord fb eb s ex frac)))).2 = KFlags.empty := by
  by_cases hn : ex = 2 ^ eb - 1
  · obtain ⟨hs, hi⟩ := packExt_inf_fields s
    rw [unpackNarrow_narrowWord hex hfrac, if_pos hn, if_pos (hnan hn), widen_eq f rfl, narrow_inf f rm hi, hs, hn,
      hnan hn]
    exact ⟨rfl, rfl⟩
  by_cases hz : ex = 0 ∧ frac = 0
  · obtain ⟨rfl, rfl⟩ := hz
    obtain ⟨hs, hz, -, -⟩ := packExt_zero_fields s
    rw [unpackNarrow_narrowWord hex hfrac, if_neg hn, if_pos rfl, if_pos rfl, widen_eq f rfl, narrow_zero f rm hz, hs]
    exact ⟨rfl, rfl⟩
  obtain ⟨hu, hh, hpack⟩ := unpackNarrow_cases hf (s := s) hex hfrac hn hz
  obtain ⟨hmag, hflags⟩ := (narrow_number (f := f) rm (packExt_holds s hh.ext)).exact hh
  rw [hu, widen_eq f rfl]
  refine ⟨?_, hflags⟩
  obtain h | h | ⟨n, k, m, e, hh', hm, hv, -⟩ := isValue_of_magnitude hh hmag
  · rw [h] at hmag; exact hmag.elim
  · rw [h] at hmag
    exact absurd hmag.2 (by have := hh.ne_zero; positivity)
  · rw [hv] at hmag ⊢
    rw [packNarrow_fin_congr fb eb s hm hh.ne_zero hmag.2.2.symm, hpack]

end narrow

end words

/-! ## The words of binary32 and binary64 -/

theorem toNat_f32 (w : BitVec 32) : w.toNat =
    narrowWord 23 8 (w.getLsbD 31) (w.extractLsb' 23 8).toNat (w.extractLsb' 0 23).toNat := by
  rw [BitVec.extractLsb'_toNat, BitVec.extractLsb'_toNat, Nat.shiftRight_eq_div_pow, Nat.shiftRight_zero,
    BitVec.getLsbD, Nat.testBit_eq_decide_div_mod_eq]
  exact eq_narrowWord w.isLt

theorem toNat_f64 (w : BitVec 64) : w.toNat =
    narrowWord 52 11 (w.getLsbD 63) (w.extractLsb' 52 11).toNat (w.extractLsb' 0 52).toNat := by
  rw [BitVec.extractLsb'_toNat, BitVec.extractLsb'_toNat, Nat.shiftRight_eq_div_pow, Nat.shiftRight_zero,
    BitVec.getLsbD, Nat.testBit_eq_decide_div_mod_eq]
  exact eq_narrowWord w.isLt

theorem unpackF32_eq (w : BitVec 32) : unpackF32 w =
    unpackNarrow 23 8 (narrowWord 23 8 (w.getLsbD 31) (w.extractLsb' 23 8).toNat (w.extractLsb' 0 23).toNat) := by
  rw [← toNat_f32, unpackF32]

theorem unpackF64_eq (w : BitVec 64) : unpackF64 w =
    unpackNarrow 52 11 (narrowWord 52 11 (w.getLsbD 63) (w.extractLsb' 52 11).toNat (w.extractLsb' 0 52).toNat) := by
  rw [← toNat_f64, unpackF64]

/-- A word whose exponent field is all ones is a NaN or an infinity. -/
theorem fraction_zero_of_not_nan {s : Bool} {fb eb ex frac : ℕ} (hex : ex < 2 ^ eb) (hfrac : frac < 2 ^ fb)
    (h : (unpackNarrow fb eb (narrowWord fb eb s ex frac)).isNan = false) (he : ex = 2 ^ eb - 1) : frac = 0 := by
  rw [unpackNarrow_narrowWord hex hfrac, if_pos he] at h
  by_contra hne
  rw [if_neg hne] at h
  cases h

theorem kToF32_kFromF32 (rm : Rm) (w : BitVec 32) (h : (unpackF32 w).isNan = false) :
    kToF32 rm (kFromF32 w) = (w, KFlags.empty) := by
  rw [unpackF32_eq] at h
  have hnan := fraction_zero_of_not_nan (BitVec.isLt _) (BitVec.isLt _) h
  obtain ⟨hpack, hflags⟩ := narrow_widen_word isNarrow_f32 (s := w.getLsbD 31) (BitVec.isLt _) (BitVec.isLt _) rm hnan
  rw [kToF32_eq, kFromF32, unpackF32_eq, packF32, hpack, hflags, ← toNat_f32, BitVec.ofNat_toNat, BitVec.setWidth_eq]

theorem kToF64_kFromF64 (rm : Rm) (w : BitVec 64) (h : (unpackF64 w).isNan = false) :
    kToF64 rm (kFromF64 w) = (w, KFlags.empty) := by
  rw [unpackF64_eq] at h
  have hnan := fraction_zero_of_not_nan (BitVec.isLt _) (BitVec.isLt _) h
  obtain ⟨hpack, hflags⟩ := narrow_widen_word isNarrow_f64 (s := w.getLsbD 63) (BitVec.isLt _) (BitVec.isLt _) rm hnan
  rw [kToF64_eq, kFromF64, unpackF64_eq, packF64, hpack, hflags, ← toNat_f64, BitVec.ofNat_toNat, BitVec.setWidth_eq]

/-! ## Special operands of the narrowings (R152) -/

theorem kToF32_zero (rm : Rm) {a : Fx80} (h : a.isZero = true) :
    kToF32 rm a = (if a.sign then 0x80000000#32 else 0#32, KFlags.empty) := by
  rw [kToF32_eq, narrow_zero .f32 rm h]
  cases a.sign <;> rfl

theorem kToF64_zero (rm : Rm) {a : Fx80} (h : a.isZero = true) :
    kToF64 rm a = (if a.sign then 0x8000000000000000#64 else 0#64, KFlags.empty) := by
  rw [kToF64_eq, narrow_zero .f64 rm h]
  cases a.sign <;> rfl

theorem kToF32_inf (rm : Rm) {a : Fx80} (h : a.isInf = true) :
    kToF32 rm a = ((if a.sign then 0x80000000#32 else 0#32) ||| 0x7F800000#32, KFlags.empty) := by
  rw [kToF32_eq, narrow_inf .f32 rm h]
  cases a.sign <;> rfl

theorem kToF64_inf (rm : Rm) {a : Fx80} (h : a.isInf = true) :
    kToF64 rm a = ((if a.sign then 0x8000000000000000#64 else 0#64) ||| 0x7FF0000000000000#64, KFlags.empty) := by
  rw [kToF64_eq, narrow_inf .f64 rm h]
  cases a.sign <;> rfl

theorem narrow_f32_nan (rm : Rm) {a : Fx80} (h : a.isNan = true) : narrow .f32 rm a =
    (.nan a.sign (Fmt.f32.defaultNan ||| (a.low.extractLsb' 40 23).toNat), KFlags.empty) := by
  rw [narrow_nan .f32 rm h, ← top_of_fraction a.low (by decide : 40 + 23 = 63), Fmt.sigBits]

theorem narrow_f64_nan (rm : Rm) {a : Fx80} (h : a.isNan = true) : narrow .f64 rm a =
    (.nan a.sign (Fmt.f64.defaultNan ||| (a.low.extractLsb' 11 52).toNat), KFlags.empty) := by
  rw [narrow_nan .f64 rm h, ← top_of_fraction a.low (by decide : 11 + 52 = 63), Fmt.sigBits]

/-! ## Special words of the widenings (R153) -/

/-- The high word of an infinity or a NaN. -/
theorem highWord_top (s : Bool) : highWord s 0x7FFF = if s then 0xFFFF#16 else 0x7FFF#16 := by cases s <;> decide

theorem ofNat_mul_two_pow {n j : ℕ} (v : BitVec n) : BitVec.ofNat 64 (v.toNat * 2 ^ j) = v.setWidth 64 <<< j := by
  refine BitVec.eq_of_toNat_eq ?_
  rw [BitVec.toNat_shiftLeft, BitVec.toNat_setWidth, BitVec.toNat_ofNat, Nat.shiftLeft_eq, Nat.mod_mul_mod]

theorem kFromF32_special {w : BitVec 32} (h : (w.extractLsb' 23 8).toNat = 255) :
    kFromF32 w = if w.extractLsb' 0 23 = 0#23 then ⟨highWord (w.getLsbD 31) 0x7FFF, 0x8000000000000000#64⟩
      else ⟨highWord (w.getLsbD 31) 0x7FFF, 0xC000000000000000#64 ||| ((w.extractLsb' 0 23).setWidth 64 <<< 40)⟩ := by
  have hz : w.extractLsb' 0 23 = 0#23 ↔ (w.extractLsb' 0 23).toNat = 0 := by rw [← BitVec.toNat_inj]; rfl
  rw [kFromF32, unpackF32_eq, unpackNarrow_narrowWord (BitVec.isLt _) (BitVec.isLt _), if_pos (by exact h)]
  simp only [hz]
  split
  · rfl
  · rw [widen, packExt, BitVec.ofNat_or, Fmt.sigBits, ofNat_mul_two_pow]

theorem kFromF64_special {w : BitVec 64} (h : (w.extractLsb' 52 11).toNat = 2047) :
    kFromF64 w = if w.extractLsb' 0 52 = 0#52 then ⟨highWord (w.getLsbD 63) 0x7FFF, 0x8000000000000000#64⟩
      else ⟨highWord (w.getLsbD 63) 0x7FFF, 0xC000000000000000#64 ||| ((w.extractLsb' 0 52).setWidth 64 <<< 11)⟩ := by
  have hz : w.extractLsb' 0 52 = 0#52 ↔ (w.extractLsb' 0 52).toNat = 0 := by rw [← BitVec.toNat_inj]; rfl
  rw [kFromF64, unpackF64_eq, unpackNarrow_narrowWord (BitVec.isLt _) (BitVec.isLt _), if_pos (by exact h)]
  simp only [hz]
  split
  · rfl
  · rw [widen, packExt, BitVec.ofNat_or, Fmt.sigBits, ofNat_mul_two_pow]

theorem kFromF32_number {w : BitVec 32} {x : ℝ} (hc : (w.extractLsb' 23 8).toNat ≠ 255)
    (hx : x = ((if (w.extractLsb' 23 8).toNat = 0 then 0 else 2 ^ 23) + (w.extractLsb' 0 23).toNat) *
      (2 : ℝ) ^ ((max (w.extractLsb' 23 8).toNat 1 : ℕ) - 150 : ℤ)) :
    (unpackF32 w).IsMagnitude (w.getLsbD 31) x ∧ fxIsAbs (kFromF32 w) x ∧ (kFromF32 w).sign = w.getLsbD 31 ∧
      (kFromF32 w).isUnsupported = false := by
  rw [kFromF32, unpackF32_eq]
  refine widen_word isNarrow_f32 (BitVec.isLt _) (BitVec.isLt _) hc ?_
  rw [hx, sub_sub, show Fmt.f32.emax + (23 : ℕ) = 150 from rfl]
  norm_num

theorem kFromF64_number {w : BitVec 64} {x : ℝ} (hc : (w.extractLsb' 52 11).toNat ≠ 2047)
    (hx : x = ((if (w.extractLsb' 52 11).toNat = 0 then 0 else 2 ^ 52) + (w.extractLsb' 0 52).toNat) *
      (2 : ℝ) ^ ((max (w.extractLsb' 52 11).toNat 1 : ℕ) - 1075 : ℤ)) :
    (unpackF64 w).IsMagnitude (w.getLsbD 63) x ∧ fxIsAbs (kFromF64 w) x ∧ (kFromF64 w).sign = w.getLsbD 63 ∧
      (kFromF64 w).isUnsupported = false := by
  rw [kFromF64, unpackF64_eq]
  refine widen_word isNarrow_f64 (BitVec.isLt _) (BitVec.isLt _) hc ?_
  rw [hx, sub_sub, show Fmt.f64.emax + (52 : ℕ) = 1075 from rfl]
  norm_num

end Sys2Proof.Machine
end

section
/-! The statements of 40_kernel_and_protocol.md on the kernel (R130 to R153). -/

namespace Sys2Proof.Machine

/-! ## Rounding -/

/-- Settles O20: the rounding direction by the remainder of the division; round to integer by the integer it chooses,
which the extended format holds. -/
theorem rintDirectionIsR139 : Obligations.RintDirectionIsR139 := by
  refine ⟨fun rm s num den hd => rintDir_spec rm s num hd, fun rm a hu => ⟨kRint_special rm, fun hf hz x hx => ?_⟩⟩
  have ha := isNumber_of_finite hu hf hz hx
  obtain ⟨hr, hi⟩ := rintFinite_spec rm a.sign a.low.toNat ((max a.exp.toNat 1 : ℕ) - 16446)
  have hint := rintFinite_extInteger rm a.sign ha.low_ne_zero a.low.isLt ha.exponent_le
  rw [← show x = _ from hx] at hr hi
  rw [kRint_number rm ha]
  exact ⟨_, hr, rfl, fxIsAbs_encNat _ hint, integerOf_encNat _ hint, rfl, hi⟩

/-- Settles O21. -/
theorem roundingIsR140 : Obligations.RoundingIsR140 := fun f rm s _ _ e hn hd => roundF_isRounded f rm s e hn hd

/-! ## Operations -/

/-- Settles O22: numbers by the rounding of the exact result, zeros and infinities by the tables of R145 to R147, NaNs
by the one that is selected. -/
theorem arithmeticRoundsOnce : Obligations.ArithmeticRoundsOnce := by
  refine ⟨fun f k s t m n e g hm hn => ?_, fun f k s t m e hm => ?_, fun op hop f k => ?_, by decide, by decide,
    by decide⟩
  · obtain ⟨hmul, hdiv⟩ := arithmetic_numbers f k s t e g hm hn
    obtain ⟨hpos, hneg, hzero⟩ := addFinite_spec f k.rm s t m n e g
    exact ⟨hmul, hdiv, hpos, hneg, fun h => by rw [← zeroSumSign_eq]; exact hzero h, rfl⟩
  · refine ⟨?_, ?_, ?_, ?_, ?_, ?_, ?_, addFinite_zero_left f k.rm s t e hm, addFinite_zero_right f k.rm s t e hm,
      addFinite_zero_left f k.rm s (!t) e hm, addFinite_zero_right f k.rm (!s) t e hm⟩
    all_goals cases s <;> cases t <;> simp [kAdd, kSub, kMul, kDiv, invalidVal, Val.isNan, Val.neg, zeroSumSign_eq]
  · have h : SelectsNan f k.nanSelect (op f k) := by
      simp only [List.mem_cons, List.not_mem_nil, or_false] at hop
      obtain rfl | rfl | rfl | rfl := hop
      · exact kAdd_selectsNan f k
      · exact kSub_selectsNan f k
      · exact kMul_selectsNan f k
      · exact kDiv_selectsNan f k
    exact ⟨h.default, h.any⟩

/-- Settles O23. -/
theorem squareRootRoundsOnce : Obligations.SquareRootRoundsOnce := by
  refine ⟨fun _ _ _ _ => ⟨rfl, rfl, rfl, rfl, rfl⟩, fun k m e hm h64 => ?_⟩
  rw [kSqrt_fin]
  exact sqrtFinite_isRounded k.rm e hm h64

/-- Settles O24. -/
theorem remainderIsExact : Obligations.RemainderIsExact := by
  refine ⟨fun k s t m e => ?_, fun k => ⟨(kRem_selectsNan k).default, (kRem_selectsNan k).any⟩,
    fun k s t m n e g _ hn => kRem_numbers k s t e g hn⟩
  simp only [List.forall_mem_cons, List.not_mem_nil, false_implies, implies_true, and_true]
  exact ⟨⟨⟨rfl, rfl⟩, ⟨rfl, rfl⟩, rfl, rfl⟩, ⟨rfl, rfl⟩, rfl⟩

/-! ## Formats -/

/-- Settles O26: the encoding depends on the value alone, which is `n` times one power of two. -/
theorem extendedEncodingIsExact : Obligations.ExtendedEncodingIsExact := by
  intro s n k e hn h64 hk hl
  have hval : ((n * 2 ^ k : ℕ) : ℝ) * (2 : ℝ) ^ e = n * (2 : ℝ) ^ (e + k) := by
    push_cast
    rw [mul_assoc, ← zpow_natCast, two_zpow_mul, add_comm]
  obtain ⟨h, hj⟩ := packExt_fin_isNumber s hn h64 hk (by omega)
  rw [← packExt_fin_congr s (by positivity) hn hval] at h hj
  exact ⟨h.abs, h.sign, h.finite, h.supported, hj⟩

/-- Settles O28: round trips by the fields of the words, narrowing by the rounding, the special classes field by
field. -/
theorem narrowFormatsRoundTrip : Obligations.NarrowFormatsRoundTrip := by
  refine ⟨fun rm => ⟨kToF32_kFromF32 rm, kToF64_kFromF64 rm⟩, fun rm a x hu => ⟨fun hf hz hx => ?_, fun hz => ?_,
    fun hi => ?_, fun hn => ?_⟩, fun w x => ⟨kFromF32_number, fun hc hf => ?_, fun hc hf => ?_⟩,
    fun w x => ⟨kFromF64_number, fun hc hf => ?_, fun hc hf => ?_⟩⟩
  · have ha := isNumber_of_finite hu hf hz hx
    exact ⟨fun f _ => narrow_number rm ha, kToF32_isRounded ha, kToF64_isRounded ha⟩
  · exact ⟨kToF32_zero rm hz, kToF64_zero rm hz, fun f => narrow_zero f rm hz⟩
  · exact ⟨kToF32_inf rm hi, kToF64_inf rm hi, fun f => narrow_inf f rm hi⟩
  · obtain ⟨h32, h32'⟩ := packF32_nan a.sign (a.low.extractLsb' 40 23)
    obtain ⟨h64, h64'⟩ := packF64_nan a.sign (a.low.extractLsb' 11 52)
    rw [kToF32_eq, kToF64_eq, narrow_f32_nan rm hn, narrow_f64_nan rm hn, h32', h64', h32, h64]
    exact ⟨rfl, rfl, rfl, rfl⟩
  · rw [kFromF32_special hc, if_pos hf, highWord_top]
  · rw [kFromF32_special hc, if_neg hf, highWord_top]
  · rw [kFromF64_special hc, if_pos hf, highWord_top]
  · rw [kFromF64_special hc, if_neg hf, highWord_top]

end Sys2Proof.Machine
end

section
/-! SUPPORT. What the parts of a commit do to the register stack, its tags and TOP, and to the status word
(40_kernel_and_protocol.md R161 to R165). -/

namespace Sys2Proof.Machine

/-! ## The status word, bit by bit -/

/-- Nothing is pending exactly when every latch is masked. -/
theorem pendingOf_eq_zero_iff (cw sw : Word) :
    pendingOf cw sw = 0#6 ↔ ∀ k < 6, sw.getLsbD k = true → cw.getLsbD k = true := by
  have hbit (k : ℕ) (hk : k < 6) : (pendingOf cw sw).getLsbD k = (sw.getLsbD k && !cw.getLsbD k) := by
    rw [pendingOf, BitVec.getLsbD_and, BitVec.getLsbD_not, low6_getLsbD, low6_getLsbD, decide_eq_true hk]
    rfl
  constructor
  · intro h k hk hs
    have hb := hbit k hk
    rw [h, BitVec.getLsbD_zero, hs, Bool.true_and] at hb
    simpa using hb.symm
  · intro h
    refine BitVec.eq_of_getLsbD_eq fun k hk => ?_
    rw [hbit k hk, BitVec.getLsbD_zero]
    cases hs : sw.getLsbD k with
    | false => rfl
    | true => rw [h k hk hs]; rfl

/-- Two status words that differ in the condition codes alone. -/
def SameButCodes (v w : Word) : Prop := ∀ k, k ≠ 8 → k ≠ 9 → k ≠ 10 → k ≠ 14 → w.getLsbD k = v.getLsbD k

theorem SameButCodes.trans {u v w : Word} (h : SameButCodes u v) (g : SameButCodes v w) : SameButCodes u w :=
  fun k h8 h9 h10 h14 => (g k h8 h9 h10 h14).trans (h k h8 h9 h10 h14)

theorem sameButCodes_putBit (w : Word) {n : ℕ} (b : Bool) (h : n = 8 ∨ n = 9 ∨ n = 10 ∨ n = 14) :
    SameButCodes w (putBit w n b) := by
  intro k h8 h9 h10 h14
  rw [putBit_getLsbD, if_neg (by omega)]

theorem sameButCodes_putCodes (c : Codes) (w : Word) : SameButCodes w (putCodes c w) :=
  ((sameButCodes_putBit w c.c3 (by decide)).trans (sameButCodes_putBit _ c.c2 (by decide))).trans
    (sameButCodes_putBit _ c.c0 (by decide))

theorem sameButCodes_putQuotient (q : ℕ) (w : Word) : SameButCodes w (putQuotient q w) :=
  (((sameButCodes_putBit w _ (by decide)).trans (sameButCodes_putBit _ _ (by decide))).trans
    (sameButCodes_putBit _ _ (by decide))).trans (sameButCodes_putBit _ _ (by decide))

theorem sameButCodes_putCodes4 (c : BitVec 4) (w : Word) : SameButCodes w (putCodes4 c w) :=
  (((sameButCodes_putBit w _ (by decide)).trans (sameButCodes_putBit _ _ (by decide))).trans
    (sameButCodes_putBit _ _ (by decide))).trans (sameButCodes_putBit _ _ (by decide))

theorem SameButCodes.topOf {v w : Word} (h : SameButCodes v w) : topOf w = topOf v := by
  refine BitVec.eq_of_getLsbD_eq fun k hk => ?_
  rw [topOf_getLsbD, topOf_getLsbD, h _ (by omega) (by omega) (by omega) (by omega)]

/-- A stack underflow changes SF, IE and C1 alone. -/
theorem underflowed_getLsbD (sw : Word) {k : ℕ} (hk : k < 16) (h0 : k ≠ 0) (h6 : k ≠ 6) (h9 : k ≠ 9) :
    (underflowed sw).getLsbD k = sw.getLsbD k := by
  have hbits : ∀ k < 16, k ≠ 0 → k ≠ 6 → k ≠ 9 → (0x0041#16).getLsbD k = false ∧ (0xFDFF#16).getLsbD k = true := by
    decide
  obtain ⟨hor, hand⟩ := hbits k hk h0 h6 h9
  rw [underflowed, BitVec.getLsbD_and, BitVec.getLsbD_or, hor, hand, Bool.or_false, Bool.and_true]

theorem topOf_underflowed (sw : Word) : topOf (underflowed sw) = topOf sw := by
  refine BitVec.eq_of_getLsbD_eq fun k hk => ?_
  rw [topOf_getLsbD, topOf_getLsbD, underflowed_getLsbD sw (by omega) (by omega) (by omega) (by omega)]

/-! ## What a commit does to the register stack -/

/-- `t` is `s` after a part of a handler that writes the registers `w` and the tags `g`, counted from the TOP of `s`,
and moves TOP by `mv` (40_kernel_and_protocol.md R161 to R163). -/
structure StackMoved (w g : List Slot) (mv : Slot) (s t : State) : Prop where
  regs : ∀ p, p ∉ w.map (s.top + ·) → t.reg p = s.reg p
  tags : ∀ p, p ∉ g.map (s.top + ·) → tagOfSlot t.tw p = tagOfSlot s.tw p
  top : t.top = s.top + mv

theorem StackMoved.refl (s : State) : StackMoved [] [] 0 s s :=
  ⟨fun _ _ => rfl, fun _ _ => rfl, (BitVec.add_zero _).symm⟩

/-- A state with the registers, tags and TOP of another. -/
theorem stackMoved_of_eq {s t : State} (hr : t.regs = s.regs) (ht : t.tw = s.tw) (hp : t.top = s.top) :
    StackMoved [] [] 0 s t :=
  ⟨fun p _ => by rw [State.reg, State.reg, hr], fun p _ => by rw [ht], hp.trans (BitVec.add_zero _).symm⟩

theorem StackMoved.trans {w w' g g' : List Slot} {mv mv' : Slot} {s t u : State} (h : StackMoved w g mv s t)
    (h' : StackMoved w' g' mv' t u) :
    StackMoved (w ++ w'.map (mv + ·)) (g ++ g'.map (mv + ·)) (mv + mv') s u := by
  have hshift (l : List Slot) : l.map (t.top + ·) = (l.map (mv + ·)).map (s.top + ·) := by
    rw [List.map_map, h.top]
    exact List.map_congr_left fun x _ => BitVec.add_assoc _ _ _
  refine ⟨fun p hp => ?_, fun p hp => ?_, ?_⟩
  · rw [List.map_append, List.mem_append, not_or, ← hshift] at hp
    exact (h'.regs p hp.2).trans (h.regs p hp.1)
  · rw [List.map_append, List.mem_append, not_or, ← hshift] at hp
    exact (h'.tags p hp.2).trans (h.tags p hp.1)
  · rw [h'.top, h.top, BitVec.add_assoc]

/-- Two parts of which the first leaves TOP. -/
theorem StackMoved.append {w w' g g' : List Slot} {mv : Slot} {s t u : State} (h : StackMoved w g 0 s t)
    (h' : StackMoved w' g' mv t u) : StackMoved (w ++ w') (g ++ g') mv s u := by
  have := h.trans h'
  simpa using this

theorem StackMoved.mono {w w' g g' : List Slot} {mv : Slot} {s t : State} (h : StackMoved w g mv s t)
    (hw : w ⊆ w') (hg : g ⊆ g') : StackMoved w' g' mv s t :=
  ⟨fun p hp => h.regs p (mt (fun hm => List.map_subset _ hw hm) hp),
    fun p hp => h.tags p (mt (fun hm => List.map_subset _ hg hm) hp), h.top⟩

/-- ST(i) written with a tag. -/
theorem stackMoved_setSlot (i : Slot) (v : Fx80) (t : BitVec 2) (s : State) :
    StackMoved [i] [i] 0 s (setSlot (s.top + i) v t s) := by
  refine ⟨fun p hp => ?_, fun p hp => ?_, (BitVec.add_zero _).symm⟩
  · rw [setSlot_reg, if_neg (by simpa using hp)]
  · rw [setSlot_tag, if_neg (by simpa using hp)]

theorem stackMoved_setTop (mv : Slot) (s : State) : StackMoved [] [] mv s (setTop (s.top + mv) s) :=
  ⟨fun _ _ => rfl, fun _ _ => rfl, setTop_top _ _⟩

/-- ST(i) freed. -/
theorem stackMoved_free (i : Slot) (s : State) :
    StackMoved [] [i] 0 s { s with tw := putTag s.tw (s.top + i) tagEmpty } :=
  ⟨fun _ _ => rfl, fun p hp => tagOfSlot_putTag_other _ _ _ _ (by simpa using hp), (BitVec.add_zero _).symm⟩

/-- A value pushed (R161). -/
theorem stackMoved_pushCommit (v : Fx80) (t : BitVec 2) (s : State) : StackMoved [7] [7] 7 s (pushCommit v t s) := by
  refine ⟨fun p hp => ?_, fun p hp => ?_, ?_⟩
  · rw [pushCommit, setSlot_reg, if_neg (by simpa using hp)]
    rfl
  · rw [pushCommit, setSlot_tag, if_neg (by simpa using hp)]
    rfl
  · rw [pushCommit, setSlot_top, setTop_top]

/-! ## What a commit leaves alone -/

/-- `t` is `s` after a part of a commit: no math fault is requested, ES and FX stay, and nothing comes to be pending
(40_kernel_and_protocol.md R165, R172). -/
structure CommitKept (s t : State) : Prop where
  fx : t.fx = s.fx
  cw : t.cw = s.cw
  mf : t.mfRequest = s.mfRequest
  es : t.sw.getLsbD 7 = s.sw.getLsbD 7
  pending : pendingOf s.cw s.sw = 0#6 → pendingOf t.cw t.sw = 0#6

theorem CommitKept.refl (s : State) : CommitKept s s := ⟨rfl, rfl, rfl, rfl, id⟩

theorem CommitKept.trans {s t u : State} (h : CommitKept s t) (g : CommitKept t u) : CommitKept s u :=
  ⟨g.fx.trans h.fx, g.cw.trans h.cw, g.mf.trans h.mf, g.es.trans h.es, g.pending ∘ h.pending⟩

/-- A part of a commit: what it does to the stack, and that it leaves the rest alone. -/
structure Commit (w g : List Slot) (mv : Slot) (s t : State) : Prop where
  moved : StackMoved w g mv s t
  kept : CommitKept s t

variable {w w' g g' : List Slot} {mv mv' : Slot} {s t u : State}

theorem Commit.refl (s : State) : Commit [] [] 0 s s := ⟨.refl s, .refl s⟩

theorem Commit.append (h : Commit w g 0 s t) (h' : Commit w' g' mv t u) : Commit (w ++ w') (g ++ g') mv s u :=
  ⟨h.moved.append h'.moved, h.kept.trans h'.kept⟩

theorem commit_setSlot (i : Slot) (v : Fx80) (t : BitVec 2) (s : State) :
    Commit [i] [i] 0 s (setSlot (s.top + i) v t s) := ⟨stackMoved_setSlot i v t s, ⟨rfl, rfl, rfl, rfl, id⟩⟩

theorem commit_writeStack (i : Slot) (v : Fx80) (s : State) : Commit [i] [i] 0 s (writeStack i v s) :=
  commit_setSlot i v _ s

/-- A part of a commit that changes the status word alone. -/
theorem commitKept_sw {sw : Word} (hes : sw.getLsbD 7 = s.sw.getLsbD 7)
    (hp : ∀ k < 6, sw.getLsbD k = true → s.sw.getLsbD k = true ∨ s.cw.getLsbD k = true) :
    CommitKept s { s with sw := sw } := by
  refine ⟨rfl, rfl, rfl, hes, fun h => ?_⟩
  rw [pendingOf_eq_zero_iff] at h ⊢
  exact fun k hk hs => (hp k hk hs).elim (h k hk) id

theorem commit_codes {sw : Word} (h : SameButCodes s.sw sw) : Commit [] [] 0 s { s with sw := sw } :=
  ⟨stackMoved_of_eq rfl rfl h.topOf,
    commitKept_sw (h 7 (by decide) (by decide) (by decide) (by decide)) fun k hk hs =>
      .inl ((h k (by omega) (by omega) (by omega) (by omega)) ▸ hs)⟩

theorem commitKept_setTop (t : Slot) (s : State) : CommitKept s (setTop t s) :=
  commitKept_sw (putTop_getLsbD _ _ _ (by decide)) fun k hk hs => .inl (by rwa [putTop_getLsbD _ _ _ (by omega)] at hs)

theorem commit_pushCommit (v : Fx80) (t : BitVec 2) (s : State) : Commit [7] [7] 7 s (pushCommit v t s) :=
  ⟨stackMoved_pushCommit v t s, (commitKept_setTop (s.top + 7) s).trans ⟨rfl, rfl, rfl, rfl, id⟩⟩

/-- The movement of a pop (R162). -/
theorem commit_popMove (s : State) : Commit [] [0] 1 s (popMove s) := by
  have h := (stackMoved_free 0 s).append (stackMoved_setTop 1 _)
  have h0 : s.top + 0 = s.top := BitVec.add_zero _
  rw [h0] at h
  exact ⟨h, CommitKept.trans (t := { s with tw := putTag s.tw s.top tagEmpty }) ⟨rfl, rfl, rfl, rfl, id⟩
    (commitKept_setTop _ _)⟩

/-- The stack underflow of a pop where IE is masked. -/
theorem commit_setStackUnderflow (h : s.cw.getLsbD 0 = true) : Commit [] [] 0 s (setStackUnderflow s) := by
  have hu : setStackUnderflow s = { s with sw := underflowed s.sw } := by rw [← setStackUnderflow_mask]; rfl
  rw [hu]
  refine ⟨stackMoved_of_eq rfl rfl (topOf_underflowed _), commitKept_sw (underflowed_getLsbD _ (by decide) (by decide)
    (by decide) (by decide)) fun k hk hs => ?_⟩
  by_cases h0 : k = 0
  · exact .inr (h0 ▸ h)
  · exact .inl (by rwa [underflowed_getLsbD _ (by omega) h0 (by omega) (by omega)] at hs)

/-- A pop whose top is occupied, or empty with IE masked, moves. -/
theorem commit_pop (h : s.isEmpty 0 = true → s.cw.getLsbD 0 = true) : Commit [] [0] 1 s (pop s) := by
  unfold pop
  split
  · next he =>
    rw [if_pos (h he)]
    exact (commit_setStackUnderflow (h he)).append (commit_popMove _)
  · exact commit_popMove s

/-- The slots a popping form frees. -/
abbrev popSlot (b : Bool) : List Slot := if b then [0] else []

/-- How far a popping form moves TOP. -/
abbrev popMoves (b : Bool) : Slot := if b then 1 else 0

theorem commit_popIf (b : Bool) (h : s.isEmpty 0 = true → s.cw.getLsbD 0 = true) :
    Commit [] (popSlot b) (popMoves b) s (popIf b s) := by
  cases b
  · exact .refl s
  · exact commit_pop h

/-- A write of ST(i) leaves an empty top only where it was empty. -/
theorem isEmpty_of_writeStack {i j : Slot} {v : Fx80} (h : (writeStack i v s).isEmpty j = true) :
    s.isEmpty j = true := by
  by_cases hij : j = i
  · rw [hij, writeStack_occupied] at h
    cases h
  · rwa [writeStack_isEmpty_other i j v s hij] at h

theorem commit_writePop (i : Slot) (v : Fx80) (b : Bool) (h : s.isEmpty 0 = true → s.cw.getLsbD 0 = true) :
    Commit [i] ([i] ++ popSlot b) (popMoves b) s (popIf b (writeStack i v s)) :=
  (commit_writeStack i v s).append (commit_popIf b fun he => h (isEmpty_of_writeStack he))

end Sys2Proof.Machine
end

section
/-! SUPPORT. The outcomes of a funneled handler: committed, failed, or ended by the host
(40_kernel_and_protocol.md R165, R172; 20_memory.md R79). -/

namespace Sys2Proof.Machine

variable {s t u v : State} {w g : List Slot} {mv : Slot}

/-! ## The outcomes of a funneled handler -/

/-- `v` is the state in which the commit starts after checks and computation from `s` to `u` (40_kernel_and_protocol.md
R165): nothing is pending, so a stack fault found by the checks is masked. -/
structure Cleared (s u v : State) : Prop where
  regs : v.regs = s.regs
  tw : v.tw = s.tw
  top : v.top = s.top
  fx : v.fx = KFlags.empty
  mf : v.mfRequest = s.mfRequest
  guards : v.guards = s.guards
  pending : pendingOf v.cw v.sw = 0#6
  es : v.sw.getLsbD 7 = false
  masked : u.sw.getLsbD 0 = true → v.cw.getLsbD 0 = true

/-- `t` is `s` after a funneled instruction that committed. -/
structure Committed (w g : List Slot) (mv : Slot) (s t : State) : Prop where
  moved : StackMoved w g mv s t
  fx : t.fx = KFlags.empty
  mf : t.mfRequest = s.mfRequest
  pending : pendingOf t.cw t.sw = 0#6
  es : t.sw.getLsbD 7 = false

/-- `t` is `s` after a failed funnel: the math fault requested of a host that honours it, ES set, and no piece of the
stack, of memory or of the host's registers changed (R165, R172; 60_exceptions.md R509). -/
structure Failed (s t : State) : Prop where
  regs : t.regs = s.regs
  tw : t.tw = s.tw
  top : t.top = s.top
  mem : t.mem = s.mem
  host : (t.ax, t.zf, t.pf, t.cf) = (s.ax, s.zf, s.pf, s.cf)
  fx : t.fx = KFlags.empty
  mf : t.mfRequest = (s.mfRequest || s.honorsMf)
  pending : pendingOf t.cw t.sw ≠ 0#6
  es : t.sw.getLsbD 7 = true

/-- `t` is `s` after the host ended an access: a host with guards, and the stack as it was (20_memory.md R79). -/
structure HostEnded (s t : State) : Prop where
  guards : s.guards ≠ []
  regs : t.regs = s.regs
  tw : t.tw = s.tw
  top : t.top = s.top

/-- How a funneled handler on `s` leaves off whose commit writes the registers `w` and the tags `g` and moves TOP by
`mv`. -/
inductive Funneled (w g : List Slot) (mv : Slot) (s : State) : Ended → Prop
  | committed {t : State} (h : Committed w g mv s t) : Funneled w g mv s (.done t)
  | failed {t : State} (h : Failed s t) : Funneled w g mv s (afterRequest t)
  | ended {t : State} (h : HostEnded s t) : Funneled w g mv s (.abort t)

/-- How a commit leaves off. -/
inductive Commits (w g : List Slot) (mv : Slot) (s : State) : Ended → Prop
  | done {t : State} (h : Commit w g mv s t) : Commits w g mv s (.done t)
  | ended {t : State} (h : HostEnded s t) : Commits w g mv s (.abort t)

/-! ## From the checks to the commit -/

theorem Computed.topOf_eq (h : Computed s u) : u.top = s.top := by
  obtain ⟨_, _, _, hl, rfl⟩ := h
  exact topOf_of_mask hl.mask

theorem Computed.isEmpty_eq (h : Computed s u) (k : Slot) : u.isEmpty k = s.isEmpty k := by
  have ht : u.tw = s.tw := by
    obtain ⟨_, _, _, _, rfl⟩ := h
    rfl
  rw [State.isEmpty, State.isEmpty, State.tag, State.tag, State.phys, State.phys, h.topOf_eq, ht]

theorem Cleared.isEmpty_eq (h : Cleared s u v) (k : Slot) : v.isEmpty k = s.isEmpty k := by
  rw [State.isEmpty, State.isEmpty, State.tag, State.tag, State.phys, State.phys, h.top, h.tw]

/-- An EMPTY operand has latched IE by the end of the computation (40_kernel_and_protocol.md R158, R164). -/
theorem computed_IE_of_empty {is : List Slot} {k : Slot} (g : Computed (checkOperands is s) u) (hk : k ∈ is)
    (h : s.isEmpty k = true) : u.sw.getLsbD 0 = true := by
  have hIE : (checkOperands is s).sw.getLsbD 0 = true := by
    have hany : s.anyEmpty is = true := List.any_eq_true.mpr ⟨k, hk, h⟩
    rw [checkOperands_mask, if_pos hany]
    exact underflowed_IE s.sw
  obtain ⟨_, _, _, hl, rfl⟩ := g
  exact hl.grows 0 (by decide) hIE

/-- A checked operand that is EMPTY where the commit starts is so with IE masked. -/
theorem Cleared.masked_of_empty {is : List Slot} {k : Slot} (hv : Cleared s u v) (g : Computed (checkOperands is s) u)
    (hk : k ∈ is) (h : v.isEmpty k = true) : v.cw.getLsbD 0 = true :=
  hv.masked (computed_IE_of_empty g hk ((hv.isEmpty_eq k).symm.trans h))

/-- The two outcomes of a funnel, with all that stays (R165). -/
theorem funnel_cases (h : Computed s u) (c : State → Ended) :
    (∃ v, Cleared s u v ∧ funnel c u = c v) ∨ ∃ v, Failed s v ∧ funnel c u = afterRequest v := by
  have htop := h.topOf_eq
  obtain ⟨sw, fx, n, hl, rfl⟩ := h
  have hw : topOf (sw ||| latchMask fx) = topOf s.sw := topOf_of_mask (hl.trans (latched_latchMask sw fx)).mask
  rw [funnel_spec]
  split
  · next hp =>
    refine .inl ⟨_, ?_, rfl⟩
    refine ⟨rfl, rfl, ?_, rfl, rfl, rfl, (pendingOf_clearES _ _).trans hp, ?_, fun hIE => ?_⟩
    · exact (topOf_of_mask (mask_clearES _)).trans hw
    · exact putBit_getLsbD _ 7 7 false
    · exact (pendingOf_eq_zero_iff _ _).mp hp 0 (by decide) ((latched_latchMask sw fx).grows 0 (by decide) hIE)
  · next hp =>
    refine .inr ⟨_, ?_, rfl⟩
    refine ⟨rfl, rfl, ?_, rfl, rfl, rfl, rfl, fun h0 => hp ((pendingOf_setES _ _).symm.trans h0), ?_⟩
    · exact (topOf_of_mask (mask_setES _)).trans hw
    · exact putBit_getLsbD _ 7 7 true

theorem StackMoved.of_eq (h : StackMoved w g mv v t) (hr : v.regs = s.regs) (ht : v.tw = s.tw) (hp : v.top = s.top) :
    StackMoved w g mv s t := by
  obtain ⟨hregs, htags, htop⟩ := h
  rw [hp] at hregs htags htop
  rw [ht] at htags
  exact ⟨fun p hp => (hregs p hp).trans (by rw [State.reg, State.reg, hr]), htags, htop⟩

theorem HostEnded.of_eq (h : HostEnded v t) (hr : v.regs = s.regs) (ht : v.tw = s.tw) (hp : v.top = s.top)
    (hg : v.guards = s.guards) : HostEnded s t :=
  ⟨hg ▸ h.guards, h.regs.trans hr, h.tw.trans ht, h.top.trans hp⟩

/-- A funneled handler, from what its commit does (R172). -/
theorem funneled_of_commits {c : State → Ended} (h : Computed s u)
    (hc : ∀ v, Cleared s u v → Commits w g mv v (c v)) : Funneled w g mv s (funnel c u) := by
  rcases funnel_cases h c with ⟨v, hv, heq⟩ | ⟨v, hv, heq⟩
  · rw [heq]
    have hcv := hc v hv
    generalize c v = e at hcv
    cases hcv with
    | done hm =>
      exact .committed ⟨hm.moved.of_eq hv.regs hv.tw hv.top, hm.kept.fx.trans hv.fx, hm.kept.mf.trans hv.mf,
        hm.kept.pending hv.pending, hm.kept.es.trans hv.es⟩
    | ended he => exact .ended (he.of_eq hv.regs hv.tw hv.top hv.guards)
  · rw [heq]
    exact .failed hv

theorem funneled_of_commit {c : State → State} (h : Computed s u) (hc : ∀ v, Cleared s u v → Commit w g mv v (c v)) :
    Funneled w g mv s (funnel (fun v => .done (c v)) u) :=
  funneled_of_commits h fun v hv => .done (hc v hv)

/-- A handler that computes before it goes on. -/
theorem Funneled.of_computed {e : Ended} (h : Computed s t) (he : Funneled w g mv t e) : Funneled w g mv s e := by
  have htop := h.topOf_eq
  obtain ⟨_, _, _, _, rfl⟩ := h
  cases he with
  | committed hc => exact .committed ⟨hc.moved.of_eq rfl rfl htop, hc.fx, hc.mf, hc.pending, hc.es⟩
  | failed hf => exact .failed ⟨hf.regs, hf.tw, hf.top.trans htop, hf.mem, hf.host, hf.fx, hf.mf, hf.pending, hf.es⟩
  | ended hh => exact .ended (hh.of_eq rfl rfl htop rfl)

/-! ## The host's side -/

theorem guards_of_guarded {acc : Access} {a : Addr} {n : ℕ} (h : s.guarded acc a n = true) : s.guards ≠ [] := by
  intro h0
  rw [guarded_nil s h0] at h
  cases h

theorem funneled_getEa {rw : Bool} {m : MemOperand} {k : Addr → Ended} (hk : Funneled w g mv s (k m.ea)) :
    Funneled w g mv s (getEa rw m s k) := by
  unfold getEa
  split
  · next hg => exact .ended ⟨guards_of_guarded hg, rfl, rfl, rfl⟩
  · exact hk

theorem funneled_memDest {m : MemOperand} {k : Addr → Ended} (hk : Funneled w g mv s (k m.ea)) :
    Funneled w g mv s (memDest m s k) := funneled_getEa hk

theorem funneled_hostRead {n : ℕ} {a : Addr} {k : ℕ → Ended} (hk : ∀ x, Funneled w g mv s (k x)) :
    Funneled w g mv s (hostRead n a s k) := by
  unfold hostRead
  split
  · next hg => exact .ended ⟨guards_of_guarded hg, rfl, rfl, rfl⟩
  · exact hk _

theorem funneled_memWord {n : ℕ} {m : MemOperand} {k : ℕ → Ended} (hk : ∀ x, Funneled w g mv s (k x)) :
    Funneled w g mv s (memWord n m s k) := funneled_getEa (funneled_hostRead hk)

theorem funneled_memSource {f : MemSrc} {m : MemOperand} {k : Fx80 → Bool → State → Ended}
    (hk : ∀ x b t, Funneled w g mv t (k x b t)) : Funneled w g mv s (memSource f m s k) :=
  funneled_memWord fun _ => (hk _ _ _).of_computed (computed_latchIf_IE _ s)

theorem funneled_memSource80 {m : MemOperand} {k : Fx80 → Ended} (hk : ∀ x, Funneled w g mv s (k x)) :
    Funneled w g mv s (memSource80 m s k) :=
  funneled_getEa (funneled_hostRead fun _ => funneled_hostRead fun _ => hk _)

/-- A write of a commit, and what comes after it. -/
theorem commits_hostWrite {n : ℕ} {a : Addr} {x : ℕ} {k : State → Ended}
    (hk : ∀ mem, Commits w g mv s (k { s with mem := mem })) : Commits w g mv s ((hostWrite n a x s).andThen k) := by
  rw [hostWrite_spec]
  split
  · next hg => exact .ended ⟨guards_of_guarded hg, rfl, rfl, rfl⟩
  · exact hk _

/-- A commit goes on where memory alone has changed. -/
theorem Commits.of_mem {mem : Memory} {e : Ended} (h : Commits w g mv { s with mem := mem } e) :
    Commits w g mv s e := by
  cases h with
  | done h => exact .done ⟨h.moved.of_eq rfl rfl rfl, h.kept.fx, h.kept.cw, h.kept.mf, h.kept.es, h.kept.pending⟩
  | ended h => exact .ended (h.of_eq rfl rfl rfl rfl)

theorem commits_storeCommit {n : ℕ} {a : Addr} {x : ℕ} {b : Bool} (h : s.isEmpty 0 = true → s.cw.getLsbD 0 = true) :
    Commits [] (popSlot b) (popMoves b) s (storeCommit n a x b s) :=
  commits_hostWrite fun _ => .of_mem (.done (commit_popIf b h))

theorem commits_storeCommit80 {a : Addr} {x : Fx80} {b : Bool} (h : s.isEmpty 0 = true → s.cw.getLsbD 0 = true) :
    Commits [] (popSlot b) (popMoves b) s (storeCommit80 a x b s) := by
  have hassoc : storeCommit80 a x b s = (hostWrite 8 a x.low.toNat s).andThen fun t =>
      (hostWrite 2 (a + 8) x.high.toNat t).andThen fun t => .done (popIf b t) := andThen_assoc _ _ _
  rw [hassoc]
  exact commits_hostWrite fun _ => .of_mem (commits_hostWrite fun _ => .of_mem (.done (commit_popIf b h)))

end Sys2Proof.Machine
end

section
/-! SUPPORT. The outcomes of every template of the funneled handlers, with the part of the stack it moves. -/

namespace Sys2Proof.Machine

variable {s t u v : State} {w g : List Slot} {mv : Slot}

/-! ## Loads and stores (42_load_store.md) -/

theorem funneled_load (x : Fx80) (s : State) : Funneled [7] [7] 7 s (load x s) :=
  funneled_of_commit (computed_pushCheck s) fun v _ => commit_pushCommit _ _ v

theorem funneled_loadReal (f : MemSrc) (m : MemOperand) (s : State) : Funneled [7] [7] 7 s (loadReal f m s) := by
  refine funneled_memWord fun x => ?_
  split
  · exact (funneled_load _ _).of_computed (computed_latch_IE s)
  · exact funneled_load _ _

theorem funneled_loadInt (n : IntWidth) (m : MemOperand) (s : State) : Funneled [7] [7] 7 s (loadInt n m s) :=
  funneled_memSource fun _ _ _ => funneled_load _ _

theorem funneled_loadSt (i : Slot) (s : State) : Funneled [7] [7] 7 s (loadSt i s) :=
  (funneled_load _ _).of_computed (computed_checkOperands [i] s)

theorem funneled_load80 (f : Fx80 → Fx80) (m : MemOperand) (s : State) :
    Funneled [7] [7] 7 s (memSource80 m s fun x => load (f x) s) :=
  funneled_memSource80 fun _ => funneled_load _ _

theorem funneled_loadConst (c : Fx80) (tg : BitVec 2) (s : State) : Funneled [7] [7] 7 s (loadConst c tg s) :=
  funneled_of_commit (computed_pushCheck s) fun v _ => commit_pushCommit _ _ v

/-- The image of a store is computed from the check of ST(0). -/
theorem computed_storeImage_checked {α : Type} (absent : α) {enc : Fx80 → State → α × State}
    (h : ∀ x t, Computed t (enc x t).2) (s : State) :
    Computed (checkOperands [0] s) (storeImage absent enc s).2 := .ite (.refl _) (h _ _)

theorem funneled_store {α : Type} {absent : α} {enc : Fx80 → State → α × State} (h : ∀ x t, Computed t (enc x t).2)
    {c : State → Ended} (hc : ∀ v, (v.isEmpty 0 = true → v.cw.getLsbD 0 = true) → Commits w g mv v (c v)) :
    Funneled w g mv s (funnel c (storeImage absent enc s).2) :=
  funneled_of_commits (computed_storeImage absent enc h s) fun v hv =>
    hc v (hv.masked_of_empty (computed_storeImage_checked absent h s) (List.mem_singleton_self 0))

theorem funneled_storeReal32 (b : Bool) (m : MemOperand) (s : State) :
    Funneled [] (popSlot b) (popMoves b) s (storeReal32 b m s) :=
  funneled_memDest (funneled_store computed_encF32 fun _ => commits_storeCommit)

theorem funneled_storeReal64 (b : Bool) (m : MemOperand) (s : State) :
    Funneled [] (popSlot b) (popMoves b) s (storeReal64 b m s) :=
  funneled_memDest (funneled_store computed_encF64 fun _ => commits_storeCommit)

theorem funneled_storeInt (n : IntWidth) (b : Bool) (m : MemOperand) (s : State) :
    Funneled [] (popSlot b) (popMoves b) s (storeInt n b m s) :=
  funneled_memDest (funneled_store (computed_encInt _) fun _ => commits_storeCommit)

theorem funneled_storeReal80 (m : MemOperand) (s : State) :
    Funneled [] (popSlot true) (popMoves true) s (storeReal80 m s) :=
  funneled_memDest (funneled_store (fun _ t => .refl t) fun _ => commits_storeCommit80)

theorem funneled_storeBcd (m : MemOperand) (s : State) : Funneled [] (popSlot true) (popMoves true) s (storeBcd m s) :=
  funneled_memDest (funneled_store computed_bcdImage fun _ => commits_storeCommit80)

theorem funneled_storeSt (i : Slot) (b : Bool) (s : State) :
    Funneled [i] ([i] ++ popSlot b) (popMoves b) s (storeSt i b s) :=
  funneled_store (fun _ t => .refl t) fun _ hv => .done (commit_writePop i _ b hv)

/-! ## Arithmetic (43_arithmetic.md, 44_misc_arith.md) -/

/-- A result written to ST(i), and nothing more. -/
theorem funneled_write {x : Fx80} (i : Slot) (h : Computed s u) :
    Funneled [i] [i] 0 s (funnel (fun v => .done (writeStack i x v)) u) :=
  funneled_of_commit h fun v _ => commit_writeStack i x v

/-- A result written to ST(i) after the checks of operands with ST(0) among them, then the pop of a popping form. -/
theorem funneled_writePop {is : List Slot} {x : Fx80} (i : Slot) (b : Bool) (h0 : 0 ∈ is)
    (h : Computed (checkOperands is s) u) :
    Funneled [i] ([i] ++ popSlot b) (popMoves b) s (funnel (fun v => .done (popIf b (writeStack i x v))) u) :=
  funneled_of_commit ((computed_checkOperands is s).trans h) fun _ hv =>
    commit_writePop i x b (hv.masked_of_empty h h0)

theorem funneled_arithMem (k : ArithKind) (f : MemSrc) (m : MemOperand) (s : State) :
    Funneled [0] [0] 0 s (arithMem k f m s) :=
  funneled_memSource fun _ _ t =>
    funneled_write 0 ((computed_checkOperands [0] t).trans (.ite (.refl _) (computed_arithResult _ _ _ _)))

theorem funneled_arithReg (k : ArithKind) {dst src : Slot} (b : Bool) (h0 : 0 ∈ [dst, src]) (s : State) :
    Funneled [dst] ([dst] ++ popSlot b) (popMoves b) s (arithReg k dst src b s) :=
  funneled_writePop dst b h0 (.ite (.refl _) (computed_arithResult _ _ _ _))

theorem funneled_unary {f : Fx80 → State → Fx80 × State} (hf : ∀ a t, Computed t (f a t).2) (s : State) :
    Funneled [0] [0] 0 s (unary f s) :=
  funneled_write 0 ((computed_checkOperands [0] s).trans (.ite (.refl _) (hf _ _)))

theorem funneled_scaleTop (s : State) : Funneled [0] [0] 0 s (scaleTop s) :=
  funneled_write 0 ((computed_checkOperands [0, 1] s).trans (.ite (.refl _) (computed_scaleOf _ _ _)))

theorem commit_writeRemCodes (c : RemCodes) (s : State) : Commit [] [] 0 s (writeRemCodes c s) := by
  cases c with
  | none => exact .refl s
  | complete q => exact commit_codes (sameButCodes_putQuotient q s.sw)
  | incomplete => exact commit_codes (sameButCodes_putBit s.sw true (by decide))
  | free c => exact commit_codes (sameButCodes_putCodes4 c s.sw)

theorem funneled_premTop (s : State) : Funneled [0] [0] 0 s (premTop s) := by
  unfold premTop
  exact funneled_of_commit ((computed_checkOperands [0, 1] s).trans (.ite (.refl _) (computed_premOf _ _ _))) fun v _ =>
    (commit_writeStack 0 _ v).append (commit_writeRemCodes _ _)

theorem commit_skipFree (s : State) : Commit [] [] 0 s (skipFree s) :=
  ⟨stackMoved_of_eq rfl rfl rfl, rfl, rfl, rfl, rfl, id⟩

theorem funneled_prem1Top (s : State) : Funneled [0] [0] 0 s (prem1Top s) := by
  unfold prem1Top
  split
  · exact funneled_write 0 (computed_checkOperands [0, 1] s)
  · exact funneled_of_commit ((computed_checkOperands [0, 1] s).trans (computed_prem1Of _ _ _)) fun v _ =>
      ((commit_writeStack 0 _ v).append (commit_writeRemCodes _ _)).append (commit_skipFree _)

/-- What comes after the stack has moved, and leaves it. -/
theorem Commit.leave (h : Commit w g mv s t) (h' : Commit [] [] 0 t u) : Commit w g mv s u := by
  have hm := h.moved.trans h'.moved
  have hmv : mv + 0 = mv := BitVec.add_zero mv
  rw [List.map_nil, List.append_nil, List.append_nil, hmv] at hm
  exact ⟨hm, h.kept.trans h'.kept⟩

theorem funneled_pairCommit {after : State → State} {r : PairResult} (ha : ∀ t, Commit [] [] 0 t (after t))
    (h : Computed s r.state) : Funneled [0, 7] [0, 7] 7 s (pairCommit after r) :=
  funneled_of_commit (h.trans (computed_pushCheck _)) fun v _ =>
    ((commit_writeStack 0 _ v).append (commit_pushCommit _ _ _)).leave (ha _)

theorem funneled_pairTop {after : State → State} {f : Fx80 → State → PairResult}
    (ha : ∀ t, Commit [] [] 0 t (after t)) (hf : ∀ a t, Computed t (f a t).state) (s : State) :
    Funneled [0, 7] [0, 7] 7 s (pairTop after f s) :=
  funneled_pairCommit ha ((computed_checkOperands [0] s).trans (.ite (st := PairResult.state) (.refl _) (hf _ _)))

/-! ## Transcendental instructions (46_transcendental.md) -/

theorem commit_clearC2 (s : State) : Commit [] [] 0 s (clearC2 s) :=
  commit_codes (sameButCodes_putBit s.sw false (by decide))

theorem funneled_transInPlace {f : BitVec 64 → BitVec 64} {after : State → State}
    (ha : ∀ t, Commit [] [] 0 t (after t)) (s : State) : Funneled [0] [0] 0 s (transInPlace f after s) := by
  unfold transInPlace
  exact funneled_of_commit ((computed_checkOperands [0] s).trans (.ite (.refl _) (computed_transOne _ _ _))) fun v _ =>
    (commit_writeStack 0 _ v).leave (ha _)

theorem funneled_transPop (domain : Fx80 → Bool) (f : BitVec 64 → BitVec 64 → BitVec 64) (s : State) :
    Funneled [1] [1, 0] 1 s (transPop domain f s) :=
  funneled_writePop 1 true (is := [0, 1]) (by decide) (.ite (.refl _) (computed_transTwo _ _ _ _ _))

/-! ## Compares, conditional moves and the exchange (45_compare.md, 47_control.md) -/

theorem commit_cmpWrite (d : CmpDest) (r : Rel) (s : State) : Commit [] [] 0 s (d.write r s) := by
  cases d with
  | codes => exact commit_codes ((sameButCodes_putCodes _ _).trans (sameButCodes_putBit _ false (by decide)))
  | flags => exact ⟨stackMoved_of_eq rfl rfl rfl, rfl, rfl, rfl, rfl, id⟩

/-- The slots that `n` pops free. -/
def popSlots (n : ℕ) : List Slot := (List.range n).map (BitVec.ofNat 3)

/-- At most two pops, each of an occupied slot or with IE masked. -/
theorem commit_popTimes {n : ℕ} (hn : n ≤ 2) (h : ∀ k ∈ popSlots n, s.isEmpty k = true → s.cw.getLsbD 0 = true) :
    Commit [] (popSlots n) (BitVec.ofNat 3 n) s (popTimes n s) := by
  match n, hn with
  | 0, _ => exact .refl s
  | 1, _ => exact commit_pop (h 0 (by decide))
  | 2, _ =>
    have h1 : Commit [] [0] 1 s (pop s) := commit_pop (h 0 (by decide))
    have htag : (pop s).isEmpty 0 = s.isEmpty 1 := by
      have hne : s.top + 1 ∉ [0].map (s.top + ·) := by simp
      have h0 : s.top + 1 + 0 = s.top + 1 := BitVec.add_zero _
      rw [State.isEmpty, State.isEmpty, State.tag, State.tag, State.phys, State.phys, h1.moved.top, h0,
        h1.moved.tags _ hne]
    have h2 : Commit [] [0] 1 (pop s) (pop (pop s)) := commit_pop fun he => by
      rw [h1.kept.cw]
      exact h 1 (by decide) (htag ▸ he)
    exact ⟨h1.moved.trans h2.moved, h1.kept.trans h2.kept⟩

theorem funneled_cmpCommit {is : List Slot} (d : CmpDest) {n : ℕ} (hn : n ≤ 2) (hs : popSlots n ⊆ is) {r : Rel × State}
    (h : Computed (checkOperands is s) r.2) :
    Funneled [] (popSlots n) (BitVec.ofNat 3 n) s (cmpCommit d n r) :=
  funneled_of_commit ((computed_checkOperands is s).trans h) fun v hv => by
    have hw := commit_cmpWrite d r.1 v
    refine hw.append (commit_popTimes hn fun k hk he => ?_)
    have htag : (d.write r.1 v).isEmpty k = v.isEmpty k := by
      have h0 : v.top + 0 = v.top := BitVec.add_zero _
      rw [State.isEmpty, State.isEmpty, State.tag, State.tag, State.phys, State.phys, hw.moved.top, h0,
        hw.moved.tags _ List.not_mem_nil]
    rw [hw.kept.cw]
    exact hv.masked_of_empty h (hs hk) (htag ▸ he)

theorem popSlots_subset_of_le {n : ℕ} (hn : n ≤ 1) (is : List Slot) : popSlots n ⊆ 0 :: is := by
  match n, hn with
  | 0, _ => exact List.nil_subset _
  | 1, _ => exact List.cons_subset.mpr ⟨List.mem_cons_self, List.nil_subset _⟩

theorem funneled_cmpReg (kind : CmpKind) (d : CmpDest) {n : ℕ} {i : Slot} (hn : n ≤ 2) (hs : popSlots n ⊆ [0, i])
    (s : State) : Funneled [] (popSlots n) (BitVec.ofNat 3 n) s (cmpReg kind d n i s) :=
  funneled_cmpCommit d hn hs (.ite (.refl _) (computed_relOf _ _ _ _))

theorem funneled_cmpMem {n : ℕ} (hn : n ≤ 1) (f : MemSrc) (m : MemOperand) (s : State) :
    Funneled [] (popSlots n) (BitVec.ofNat 3 n) s (cmpMem n f m s) :=
  funneled_memSource fun _ _ _ => funneled_cmpCommit .codes (by omega) (popSlots_subset_of_le hn [])
    (.ite (.refl _) (computed_relOf _ _ _ _))

theorem funneled_testTop (s : State) : Funneled [] [] 0 s (testTop s) :=
  funneled_cmpCommit .codes (n := 0) (by decide) (List.nil_subset [0]) (.ite (.refl _) (computed_relOf _ _ _ _))

theorem funneled_moveIf {c : Cond} (h : c.holds s = true) (i : Slot) : Funneled [0] [0] 0 s (moveIf c i s) := by
  rw [moveIf, if_pos h]
  exact funneled_write 0 (computed_checkOperands [i] s)

theorem funneled_exchange (i : Slot) (s : State) : Funneled [0, i] [0, i] 0 s (exchange i s) :=
  funneled_of_commit (computed_checkOperands [0, i] s) fun v _ =>
    (commit_setSlot 0 _ _ v).append (commit_setSlot i _ _ _)

/-! ## Every funneled instruction -/

/-- What `exec` does with a funneled instruction. -/
def ExecFunneled (i : Instr) (s : State) : Prop :=
  ∃ e, exec i s = finish i e ∧ Funneled i.targets (i.targets ++ i.retags) i.moves s e

theorem exec_funneled {i : Instr} {s : State} (h : i.funneledIn s = true) : ExecFunneled i s :=
  match i, h with
  | .faddM32real _, _ | .fmulM32real _, _ | .fsubM32real _, _ | .fsubrM32real _, _ | .fdivM32real _, _
  | .fdivrM32real _, _ | .fiaddM32int _, _ | .fimulM32int _, _ | .fisubM32int _, _ | .fisubrM32int _, _
  | .fidivM32int _, _ | .fidivrM32int _, _ | .faddM64real _, _ | .fmulM64real _, _ | .fsubM64real _, _
  | .fsubrM64real _, _ | .fdivM64real _, _ | .fdivrM64real _, _ | .fiaddM16int _, _ | .fimulM16int _, _
  | .fisubM16int _, _ | .fisubrM16int _, _ | .fidivM16int _, _ | .fidivrM16int _, _ =>
    ⟨_, rfl, funneled_arithMem _ _ _ s⟩
  | .faddStSti _, _ | .fmulStSti _, _ | .fsubStSti _, _ | .fsubrStSti _, _ | .fdivStSti _, _ | .fdivrStSti _, _ =>
    ⟨_, rfl, funneled_arithReg _ false List.mem_cons_self s⟩
  | .faddStiSt _, _ | .fmulStiSt _, _ | .fsubrStiSt _, _ | .fsubStiSt _, _ | .fdivrStiSt _, _ | .fdivStiSt _, _ =>
    ⟨_, rfl, funneled_arithReg _ false (List.mem_cons_of_mem _ List.mem_cons_self) s⟩
  | .faddp _, _ | .fmulp _, _ | .fsubrp _, _ | .fsubp _, _ | .fdivrp _, _ | .fdivp _, _ =>
    ⟨_, rfl, funneled_arithReg _ true (List.mem_cons_of_mem _ List.mem_cons_self) s⟩
  | .fcomM32real _, _ | .fcomM64real _, _ | .ficomM16int _, _ | .ficomM32int _, _ =>
    ⟨_, rfl, funneled_cmpMem (n := 0) (by decide) _ _ s⟩
  | .fcompM32real _, _ | .fcompM64real _, _ | .ficompM16int _, _ | .ficompM32int _, _ =>
    ⟨_, rfl, funneled_cmpMem (n := 1) (by decide) _ _ s⟩
  | .fcomSti _, _ | .fucom _, _ | .fcomi _, _ | .fucomi _, _ =>
    ⟨_, rfl, funneled_cmpReg _ _ (n := 0) (by decide) (List.nil_subset _) s⟩
  | .fcompSti _, _ | .fucomp _, _ | .fcomip _, _ | .fucomip _, _ =>
    ⟨_, rfl, funneled_cmpReg _ _ (n := 1) (by decide) (popSlots_subset_of_le le_rfl _) s⟩
  | .fcompp, _ | .fucompp, _ => ⟨_, rfl, funneled_cmpReg _ _ (n := 2) le_rfl (List.Subset.refl _) s⟩
  | .ftst, _ => ⟨_, rfl, funneled_testTop s⟩
  | .fcmovb _, h => ⟨_, rfl, funneled_moveIf (c := .b) h _⟩
  | .fcmove _, h => ⟨_, rfl, funneled_moveIf (c := .e) h _⟩
  | .fcmovbe _, h => ⟨_, rfl, funneled_moveIf (c := .be) h _⟩
  | .fcmovu _, h => ⟨_, rfl, funneled_moveIf (c := .u) h _⟩
  | .fcmovnb _, h => ⟨_, rfl, funneled_moveIf (c := .nb) h _⟩
  | .fcmovne _, h => ⟨_, rfl, funneled_moveIf (c := .ne) h _⟩
  | .fcmovnbe _, h => ⟨_, rfl, funneled_moveIf (c := .nbe) h _⟩
  | .fcmovnu _, h => ⟨_, rfl, funneled_moveIf (c := .nu) h _⟩
  | .fldM32real _, _ | .fldM64real _, _ => ⟨_, rfl, funneled_loadReal _ _ s⟩
  | .fildM16int _, _ | .fildM32int _, _ | .fildM64int _, _ => ⟨_, rfl, funneled_loadInt _ _ s⟩
  | .fldM80real _, _ => ⟨_, rfl, funneled_load80 id _ s⟩
  | .fbld _, _ => ⟨_, rfl, funneled_load80 decBcd _ s⟩
  | .fldSti _, _ => ⟨_, rfl, funneled_loadSt _ s⟩
  | .fld1, _ | .fldz, _ | .fldpi, _ | .fldl2t, _ | .fldl2e, _ | .fldlg2, _ | .fldln2, _ =>
    ⟨_, rfl, funneled_loadConst _ _ s⟩
  | .fstM32real _, _ => ⟨_, rfl, funneled_storeReal32 false _ s⟩
  | .fstpM32real _, _ => ⟨_, rfl, funneled_storeReal32 true _ s⟩
  | .fstM64real _, _ => ⟨_, rfl, funneled_storeReal64 false _ s⟩
  | .fstpM64real _, _ => ⟨_, rfl, funneled_storeReal64 true _ s⟩
  | .fstpM80real _, _ => ⟨_, rfl, funneled_storeReal80 _ s⟩
  | .fstSti _, _ => ⟨_, rfl, funneled_storeSt _ false s⟩
  | .fstpSti _, _ => ⟨_, rfl, funneled_storeSt _ true s⟩
  | .fistM16int _, _ | .fistM32int _, _ => ⟨_, rfl, funneled_storeInt _ false _ s⟩
  | .fistpM16int _, _ | .fistpM32int _, _ | .fistpM64int _, _ => ⟨_, rfl, funneled_storeInt _ true _ s⟩
  | .fbstp _, _ => ⟨_, rfl, funneled_storeBcd _ s⟩
  | .fchs, _ | .fabs, _ => ⟨_, rfl, funneled_unary (fun _ t => .refl t) s⟩
  | .fsqrt, _ => ⟨_, rfl, funneled_unary computed_sqrtOf s⟩
  | .frndint, _ => ⟨_, rfl, funneled_unary computed_rndintOf s⟩
  | .fscale, _ => ⟨_, rfl, funneled_scaleTop s⟩
  | .fxtract, _ => ⟨_, rfl, funneled_pairTop .refl computed_extractOf s⟩
  | .fprem, _ => ⟨_, rfl, funneled_premTop s⟩
  | .fprem1, _ => ⟨_, rfl, funneled_prem1Top s⟩
  | .f2xm1, _ => ⟨_, rfl, funneled_transInPlace .refl s⟩
  | .fsin, _ | .fcos, _ => ⟨_, rfl, funneled_transInPlace commit_clearC2 s⟩
  | .fyl2x, _ | .fyl2xp1, _ | .fpatan, _ => ⟨_, rfl, funneled_transPop _ _ s⟩
  | .fptan, _ => ⟨_, rfl, funneled_pairTop commit_clearC2 computed_tanOf s⟩
  | .fsincos, _ => ⟨_, rfl, funneled_pairTop commit_clearC2 computed_sincosOf s⟩
  | .fxch _, _ => ⟨_, rfl, funneled_exchange _ s⟩

end Sys2Proof.Machine
end

section
/-! SUPPORT. What the instructions outside the funnel keep (40_kernel_and_protocol.md R171; 47_control.md R420). -/

namespace Sys2Proof.Machine

variable {s t u : State} {w g : List Slot} {mv : Slot}

/-! ## What the instructions outside the funnel leave alone (R171; 47_control.md R420) -/

/-- `t` is `s` after an unfunneled instruction that loads neither the environment nor its initial values: it requests no
math fault and leaves ES. -/
structure Unfunneled (w g : List Slot) (mv : Slot) (s t : State) : Prop where
  moved : StackMoved w g mv s t
  mf : t.mfRequest = s.mfRequest
  es : t.sw.getLsbD 7 = s.sw.getLsbD 7

/-- `t` is `s` but for memory, CW with RM, AX and the host's record of a fault. -/
structure BlockKept (s t : State) : Prop where
  regs : t.regs = s.regs
  tw : t.tw = s.tw
  sw : t.sw = s.sw
  mf : t.mfRequest = s.mfRequest
  params : t.params = s.params

theorem BlockKept.refl (s : State) : BlockKept s s := ⟨rfl, rfl, rfl, rfl, rfl⟩

theorem BlockKept.trans (h : BlockKept s t) (g : BlockKept t u) : BlockKept s u :=
  ⟨g.regs.trans h.regs, g.tw.trans h.tw, g.sw.trans h.sw, g.mf.trans h.mf, g.params.trans h.params⟩

theorem BlockKept.unfunneled (h : BlockKept s t) : Unfunneled [] [] 0 s t :=
  ⟨stackMoved_of_eq h.regs h.tw (congrArg topOf h.sw), h.mf, by rw [h.sw]⟩

theorem blockKept_andThen {e : Ended} {k : State → Ended} (he : BlockKept s e.state)
    (hk : ∀ t, BlockKept t (k t).state) : BlockKept s (e.andThen k).state := by
  cases e with
  | done t => exact he.trans (hk t)
  | abort t => exact he

theorem blockKept_hostWrite (n : ℕ) (a : Addr) (x : ℕ) (s : State) : BlockKept s (hostWrite n a x s).state := by
  rw [hostWrite_spec]
  split <;> exact ⟨rfl, rfl, rfl, rfl, rfl⟩

theorem blockKept_hostWrite80 (a : Addr) (x : Fx80) (s : State) : BlockKept s (hostWrite80 a x s).state :=
  blockKept_andThen (blockKept_hostWrite _ _ _ s) fun t => blockKept_hostWrite _ _ _ t

theorem blockKept_storeEnv (ea : Addr) (s : State) : BlockKept s (storeEnv ea s).state :=
  blockKept_andThen (blockKept_andThen (blockKept_hostWrite _ _ _ s) fun t => blockKept_hostWrite _ _ _ t)
    fun t => blockKept_hostWrite _ _ _ t

theorem blockKept_saveRegs (ea : Addr) (is : List Slot) (s : State) : BlockKept s (saveRegs ea is s).state := by
  induction is generalizing s with
  | nil => exact .refl s
  | cons i rest ih => exact blockKept_andThen (blockKept_hostWrite80 _ _ s) ih

theorem blockKept_maskAll (s : State) : BlockKept s (maskAll s) := by
  unfold maskAll
  split
  · exact ⟨rfl, rfl, rfl, rfl, rfl⟩
  · exact .refl s

/-- What a handler that asks the host for an address keeps when the rest of it does. -/
theorem state_getEa {p : State → State → Prop} (hp : ∀ f, p s { s with hostFault := some f }) {rw : Bool}
    {m : MemOperand} {k : Addr → Ended} (hk : p s (k m.ea).state) : p s (getEa rw m s k).state := by
  unfold getEa
  split
  · exact hp _
  · exact hk

theorem blockKept_fault (s : State) (f : HostFault) : BlockKept s { s with hostFault := some f } :=
  ⟨rfl, rfl, rfl, rfl, rfl⟩

theorem blockKept_storeWord (x : Word) (m : MemOperand) (s : State) : BlockKept s (storeWord x m s).state :=
  state_getEa (k := fun ea => hostWrite 2 ea x.toNat s) (blockKept_fault s) (blockKept_hostWrite _ _ _ s)

theorem blockKept_fstenv (m : MemOperand) (s : State) :
    BlockKept s (memDest m s fun ea => (storeEnv ea s).andThen fun t => .done (maskAll t)).state :=
  state_getEa (blockKept_fault s) (blockKept_andThen (blockKept_storeEnv _ s) blockKept_maskAll)

theorem blockKept_loadCw (m : MemOperand) (s : State) : BlockKept s (loadCw m s).state := by
  rcases memWord_spec 2 m s (fun x => .done (writeCw (BitVec.ofNat 16 x) s)) with h | ⟨f, h⟩
  · rw [loadCw, h]
    exact ⟨rfl, rfl, rfl, rfl, rfl⟩
  · rw [loadCw, h]
    exact blockKept_fault s f

/-- `t` is `s` after a save: the block kept, or as `FINIT` leaves it where the parameter says so (R455). -/
def Saved (s t : State) : Prop := BlockKept s t ∨ (s.params.fsaveReinit = true ∧ ∃ u, BlockKept s u ∧ t = initFpu u)

theorem saved_saveState (ea : Addr) (s : State) : Saved s (saveState ea s).state := by
  have h : BlockKept s ((storeEnv ea s).andThen (saveRegs ea stackIndices)).state :=
    blockKept_andThen (blockKept_storeEnv _ s) fun t => blockKept_saveRegs _ _ t
  unfold saveState
  generalize (storeEnv ea s).andThen (saveRegs ea stackIndices) = e at h
  cases e with
  | abort t => exact .inl h
  | done t =>
    rw [andThen_done]
    split
    · next hr =>
      have hparams : t.params = s.params := h.params
      exact .inr ⟨hparams ▸ hr, t, h, rfl⟩
    · exact .inl h

theorem saved_fsave (m : MemOperand) (s : State) : Saved s (memDest m s fun ea => saveState ea s).state :=
  state_getEa (p := Saved) (fun f => .inl (blockKept_fault s f)) (saved_saveState m.ea s)

/-! ## The loads of the environment -/

/-- The registers and the request as they were. -/
def RegsKept (s t : State) : Prop := t.regs = s.regs ∧ t.mfRequest = s.mfRequest

theorem RegsKept.trans (h : RegsKept s t) (g : RegsKept t u) : RegsKept s u := ⟨g.1.trans h.1, g.2.trans h.2⟩

theorem state_hostRead {p : State → State → Prop} (hp : ∀ f, p s { s with hostFault := some f }) {n : ℕ} {a : Addr}
    {k : ℕ → Ended} (hk : ∀ x, p s (k x).state) : p s (hostRead n a s k).state := by
  unfold hostRead
  split
  · exact hp _
  · exact hk _

theorem regsKept_hostRead {n : ℕ} {a : Addr} {k : ℕ → Ended} (hk : ∀ x, RegsKept s (k x).state) :
    RegsKept s (hostRead n a s k).state := state_hostRead (p := RegsKept) (fun _ => ⟨rfl, rfl⟩) hk

theorem regsKept_loadEnv (ea : Addr) (s : State) : RegsKept s (loadEnv ea s).state :=
  regsKept_hostRead fun c => RegsKept.trans (t := writeCw (BitVec.ofNat 16 c) s) ⟨rfl, rfl⟩ <|
    regsKept_hostRead fun x => RegsKept.trans
      (t := { writeCw (BitVec.ofNat 16 c) s with sw := BitVec.ofNat 16 x }) ⟨rfl, rfl⟩ <|
        regsKept_hostRead fun _ => ⟨rfl, rfl⟩

theorem regsKept_fldenv (m : MemOperand) (s : State) :
    RegsKept s (getEa false m s fun ea => loadEnv ea s).state :=
  state_getEa (p := RegsKept) (fun _ => ⟨rfl, rfl⟩) (regsKept_loadEnv m.ea s)

/-- The request as it was. -/
def RequestKept (s t : State) : Prop := t.mfRequest = s.mfRequest

theorem requestKept_hostRead80 {a : Addr} {k : Fx80 → Ended} (hk : ∀ x, RequestKept s (k x).state) :
    RequestKept s (hostRead80 a s k).state :=
  state_hostRead (p := RequestKept) (fun _ => rfl) fun _ =>
    state_hostRead (p := RequestKept) (fun _ => rfl) fun _ => hk _

theorem requestKept_restoreRegs (ea : Addr) (is : List Slot) (s : State) :
    RequestKept s (restoreRegs ea is s).state := by
  induction is generalizing s with
  | nil => exact rfl
  | cons i rest ih =>
    exact requestKept_hostRead80 fun v => (ih (installReg i v s)).trans rfl

theorem requestKept_restoreState (ea : Addr) (s : State) : RequestKept s (restoreState ea s).state := by
  have h : RequestKept s (loadEnv ea s).state := (regsKept_loadEnv ea s).2
  unfold restoreState
  generalize loadEnv ea s = e at h
  cases e with
  | abort t => exact h
  | done t => exact (requestKept_restoreRegs ea _ t).trans h

theorem requestKept_frstor (m : MemOperand) (s : State) :
    RequestKept s (getEa false m s fun ea => restoreState ea s).state :=
  state_getEa (p := RequestKept) (fun _ => rfl) (requestKept_restoreState m.ea s)

/-! ## Every instruction outside the funnel -/

/-- The instructions that load TW and TOP, by reading them or with the values of `FINIT`. -/
def loadsStack (i : Instr) (s : State) : Prop :=
  i = .finit ∨ (∃ m, i = .fldenv m ∨ i = .frstor m) ∨ ∃ m, i = .fsave m ∧ s.params.fsaveReinit = true

theorem not_loadsStack {i : Instr} (hinit : i ≠ .finit) (henv : ∀ m, i ≠ .fldenv m) (hrst : ∀ m, i ≠ .frstor m)
    (hsave : ∀ m, i = .fsave m → s.params.fsaveReinit = false) : ¬ loadsStack i s := by
  rintro (hi | ⟨m, hi | hi⟩ | ⟨m, hi, hr⟩)
  · exact hinit hi
  · exact henv m hi
  · exact hrst m hi
  · exact absurd hr (by rw [hsave m hi]; exact Bool.false_ne_true)

/-- `t` is `s` after the unfunneled instruction `i`. -/
structure Outside (i : Instr) (s t : State) : Prop where
  mf : t.mfRequest = s.mfRequest
  regs : ∀ p, p ∉ i.targets.map (s.top + ·) → t.reg p = s.reg p
  moved : ¬ loadsStack i s → StackMoved i.targets (i.targets ++ i.retags) i.moves s t
  es : ¬ loadsStack i s → i ≠ .fclex → t.sw.getLsbD 7 = s.sw.getLsbD 7

theorem Unfunneled.outside {i : Instr} (h : Unfunneled i.targets (i.targets ++ i.retags) i.moves s t) : Outside i s t :=
  ⟨h.mf, h.moved.regs, fun _ => h.moved, fun _ _ => h.es⟩

theorem BlockKept.outside {i : Instr} (h : BlockKept s t) (hm : i.moves = 0) : Outside i s t := by
  refine Unfunneled.outside ⟨?_, h.mf, h.unfunneled.es⟩
  rw [hm]
  exact h.unfunneled.moved.mono (List.nil_subset _) (List.nil_subset _)

/-- An instruction that loads the stack, and leaves the registers it does not target. -/
theorem outside_of_loads {i : Instr} (hl : loadsStack i s) (hmf : t.mfRequest = s.mfRequest)
    (hr : ∀ p, p ∉ i.targets.map (s.top + ·) → t.reg p = s.reg p) : Outside i s t :=
  ⟨hmf, hr, fun hn => absurd hl hn, fun hn => absurd hl hn⟩

/-- `FRSTOR` targets every register. -/
theorem mem_targets_frstor (s : State) (m : MemOperand) (p : Slot) : p ∈ (Instr.frstor m).targets.map (s.top + ·) :=
  List.mem_map.mpr ⟨p - s.top, mem_stackIndices _, by rw [BitVec.add_comm, BitVec.sub_add_cancel]⟩

/-- The cycle report of the handler of an unfunneled instruction changes the cycle counter alone. -/
theorem outside_of_state {i : Instr} {e : Ended} (h : exec i s = finish i e) (he : Outside i s e.state) :
    ∃ t, exec i s = .next t ∧ Outside i s t := by
  cases e with
  | done t =>
    have hc : Outside i s (charged i t) := ⟨he.mf, he.regs, fun hn =>
      ⟨(he.moved hn).regs, (he.moved hn).tags, (he.moved hn).top⟩, he.es⟩
    exact ⟨_, h, hc⟩
  | abort t => exact ⟨t, h, he⟩

theorem outside_fsave {m : MemOperand} (h : Saved s t) : Outside (.fsave m) s t := by
  rcases h with h | ⟨hr, u, h, rfl⟩
  · exact h.outside rfl
  · exact outside_of_loads (.inr (.inr ⟨m, rfl, hr⟩)) h.mf fun p _ => by
      rw [State.reg, State.reg, ← h.regs]
      rfl

theorem outside_fclex (s : State) : Outside .fclex s (clearExceptions s) := by
  have htop : topOf (clearExceptions s).sw = topOf s.sw := by
    have hbits : ∀ b : Bool, ∀ k < 3, (if b then 0x7F00#16 else 0xFF00#16 : Word).getLsbD (11 + k) = true := by decide
    refine BitVec.eq_of_getLsbD_eq fun k hk => ?_
    rw [topOf_getLsbD, topOf_getLsbD, clearExceptions, BitVec.getLsbD_and, hbits _ k hk, Bool.and_true]
  exact ⟨rfl, fun _ _ => rfl, fun _ => stackMoved_of_eq rfl rfl htop, fun _ h => absurd rfl h⟩

theorem outside_moveIf {i : Instr} {c : Cond} {j : Slot} (h : c.holds s = false) (hm : i.moves = 0) :
    Outside i s (moveIf c j s).state := by
  rw [moveIf, h, if_neg Bool.false_ne_true]
  exact (BlockKept.refl s).outside hm

theorem exec_outside {i : Instr} {s : State} (h : i.funneledIn s = false) : ∃ t, exec i s = .next t ∧ Outside i s t :=
  match i, h with
  | .fnop, _ => outside_of_state (e := .done s) rfl ((BlockKept.refl s).outside rfl)
  | .fldcw m, _ => outside_of_state rfl ((blockKept_loadCw m s).outside rfl)
  | .fstcw _, _ | .fstswM16 _, _ => outside_of_state rfl ((blockKept_storeWord _ _ s).outside rfl)
  | .fstswAx, _ =>
    outside_of_state (e := .done { s with ax := s.sw }) rfl (BlockKept.outside ⟨rfl, rfl, rfl, rfl, rfl⟩ rfl)
  | .fstenv m, _ => outside_of_state rfl ((blockKept_fstenv m s).outside rfl)
  | .fclex, _ => outside_of_state (e := .done (clearExceptions s)) rfl (outside_fclex s)
  | .finit, _ => outside_of_state (e := .done (initFpu s)) rfl (outside_of_loads (.inl rfl) rfl fun _ _ => rfl)
  | .fldenv m, _ =>
    outside_of_state rfl (outside_of_loads (.inr (.inl ⟨m, .inl rfl⟩)) (regsKept_fldenv m s).2 fun p _ => by
      rw [State.reg, State.reg, (regsKept_fldenv m s).1])
  | .frstor m, _ =>
    outside_of_state rfl (outside_of_loads (.inr (.inl ⟨m, .inr rfl⟩)) (requestKept_frstor m s) fun p hp =>
      absurd (mem_targets_frstor s m p) hp)
  | .fsave m, _ => outside_of_state rfl (outside_fsave (saved_fsave m s))
  | .fincstp, _ => outside_of_state (e := .done (setTop (s.top + 1) s)) rfl
      (Unfunneled.outside ⟨stackMoved_setTop 1 s, rfl, (commitKept_setTop _ s).es⟩)
  | .fdecstp, _ => outside_of_state (e := .done (setTop (s.top + 7) s)) rfl
      (Unfunneled.outside ⟨stackMoved_setTop 7 s, rfl, (commitKept_setTop _ s).es⟩)
  | .ffree j, _ => outside_of_state (e := .done { s with tw := putTag s.tw (s.phys j) tagEmpty }) rfl
      (Unfunneled.outside ⟨stackMoved_free j s, rfl, rfl⟩)
  | .fxam, _ =>
    have hc := commit_codes (s := s) ((sameButCodes_putCodes (xamCodes (s.isEmpty 0) (s.st 0)) s.sw).trans
      (sameButCodes_putBit _ (s.st 0).sign (n := 9) (by decide)))
    outside_of_state (e := examTop s) rfl (Unfunneled.outside ⟨hc.moved, hc.kept.mf, hc.kept.es⟩)
  | .fcmovb _, h => outside_of_state rfl (outside_moveIf (c := .b) h rfl)
  | .fcmove _, h => outside_of_state rfl (outside_moveIf (c := .e) h rfl)
  | .fcmovbe _, h => outside_of_state rfl (outside_moveIf (c := .be) h rfl)
  | .fcmovu _, h => outside_of_state rfl (outside_moveIf (c := .u) h rfl)
  | .fcmovnb _, h => outside_of_state rfl (outside_moveIf (c := .nb) h rfl)
  | .fcmovne _, h => outside_of_state rfl (outside_moveIf (c := .ne) h rfl)
  | .fcmovnbe _, h => outside_of_state rfl (outside_moveIf (c := .nbe) h rfl)
  | .fcmovnu _, h => outside_of_state rfl (outside_moveIf (c := .nu) h rfl)

end Sys2Proof.Machine
end

section
/-! The statements of 40_kernel_and_protocol.md on the handler protocol (R161 to R172). -/

namespace Sys2Proof.Machine

variable {s t : State} {w g : List Slot} {mv : Slot}

/-! ## After the cycle report -/

theorem Committed.charged (i : Instr) (h : Committed w g mv s t) : Committed w g mv s (charged i t) :=
  ⟨⟨h.moved.regs, h.moved.tags, h.moved.top⟩, h.fx, h.mf, h.pending, h.es⟩

theorem Failed.afterTrap (i : Instr) (h : Failed s t) : Failed s (afterTrap i t) := by
  obtain ⟨c, hc⟩ := afterTrap_eq i t
  rw [hc]
  exact ⟨h.regs, h.tw, h.top, h.mem, h.host, h.fx, h.mf, h.pending, h.es⟩

/-- The three ends of a funneled instruction (R165, R172; 20_memory.md R79). -/
theorem exec_funneled_cases {i : Instr} (h : i.funneledIn s = true) :
    ∃ t, exec i s = .next t ∧
      (Committed i.targets (i.targets ++ i.retags) i.moves s t ∨ Failed s t ∨ HostEnded s t) := by
  obtain ⟨e, he, hf⟩ := exec_funneled h
  cases hf with
  | committed hc => exact ⟨_, he, .inl (hc.charged i)⟩
  | failed hc => exact ⟨_, he.trans (finish_afterRequest i _), .inr (.inl (hc.afterTrap i))⟩
  | ended hc => exact ⟨_, he, .inr (.inr hc)⟩

/-- Settles O17: on a host without guards a funneled instruction commits or its funnel fails. -/
theorem commitIsAllOrNothing : Obligations.CommitIsAllOrNothing := by
  intro i s h hg
  obtain ⟨t, ht, hc | hf | he⟩ := exec_funneled_cases h
  · exact ⟨t, ht, hc.fx, .inl ⟨hc.pending, hc.es, hc.moved.top, hc.mf⟩⟩
  · have hhost := hf.host
    simp only [Prod.mk.injEq] at hhost
    exact ⟨t, ht, hf.fx, .inr ⟨hf.pending, hf.es, hf.mf, hf.regs, hf.tw, hf.top, hf.mem, hhost⟩⟩
  · exact absurd hg he.guards

/-- Settles O15: by what each instruction outside the funnel keeps. -/
theorem unfunneledNeverRequestMathFault : Obligations.UnfunneledNeverRequestMathFault := by
  intro i s h
  obtain ⟨t, ht, ho⟩ := exec_outside h
  exact ⟨t, ht, ho.mf, fun hclex hinit henv hrst hsave => ho.es (not_loadsStack hinit henv hrst hsave) hclex⟩

/-- What an instruction that does not load the stack does to it: its move, or nothing. -/
theorem exec_moved {i : Instr} (h : exec i s = .next t) :
    (∀ p, p ∉ i.targets.map (s.top + ·) → t.reg p = s.reg p) ∧
      (¬ loadsStack i s → StackMoved i.targets (i.targets ++ i.retags) i.moves s t ∨ StackMoved [] [] 0 s t) := by
  cases hi : i.funneledIn s with
  | true =>
    obtain ⟨u, hu, hc⟩ := exec_funneled_cases hi
    cases hu.symm.trans h
    have hkept (hr : t.regs = s.regs) (htw : t.tw = s.tw) (htop : t.top = s.top) :
        (∀ p, p ∉ i.targets.map (s.top + ·) → t.reg p = s.reg p) ∧ (¬ loadsStack i s →
          StackMoved i.targets (i.targets ++ i.retags) i.moves s t ∨ StackMoved [] [] 0 s t) :=
      ⟨fun p _ => by rw [State.reg, State.reg, hr], fun _ => .inr (stackMoved_of_eq hr htw htop)⟩
    rcases hc with hc | hf | he
    · exact ⟨hc.moved.regs, fun _ => .inl hc.moved⟩
    · exact hkept hf.regs hf.tw hf.top
    · exact hkept he.regs he.tw he.top
  | false =>
    obtain ⟨u, hu, ho⟩ := exec_outside hi
    cases hu.symm.trans h
    exact ⟨ho.regs, fun hn => .inl (ho.moved hn)⟩

/-- Settles O14: an instruction moves the stack as its targets, retags and moves say, or leaves it. -/
theorem stackFrame : Obligations.StackFrame := by
  intro i s t h
  obtain ⟨hregs, hmoved⟩ := exec_moved h
  refine ⟨hregs, fun hinit henv hsave => ?_⟩
  rcases hmoved (not_loadsStack hinit (fun m => (henv m).1) (fun m => (henv m).2) hsave) with hm | hm
  · exact ⟨.inr hm.top, hm.tags⟩
  · exact ⟨.inl (hm.top.trans (BitVec.add_zero _)), fun p _ => hm.tags p List.not_mem_nil⟩

end Sys2Proof.Machine
end

section
/-! SUPPORT. How a funneled handler settles, and the arithmetic rows on two stack operands
(40_kernel_and_protocol.md R156, R165; 43_arithmetic.md R270 to R274). -/

namespace Sys2Proof.Machine

variable {s u : State} {w : Word}

/-! ## Settling a funneled handler -/

/-- TOP where the commit starts. -/
theorem Drains.topOf_eq (h : Drains s u w) (hc : Computed s u) (hfx : s.fx = KFlags.empty) :
    topOf (w &&& 0xFF7F#16) = s.top := by
  obtain ⟨sw, fx, hword, rfl⟩ := h
  obtain ⟨sw', fx', n, hl, hu⟩ := hc
  have hsw : sw = sw' := congrArg State.sw hu
  have hw : sw ||| latchMask fx = w := by
    rw [hword, hfx]
    exact BitVec.or_zero
  rw [← hw]
  refine topOf_of_mask ((mask_clearES _).trans ?_)
  exact ((latched_latchMask sw fx).mask).trans (hsw ▸ hl.mask)

/-- A funneled handler settles as its computation drains and its commit says (40_kernel_and_protocol.md R165, R172). -/
theorem settles_of_drains {i : Instr} {c : State → State} {commit : Word → State}
    (he : exec i s = finish i (funnel (fun v => .done (c v)) u)) (hd : Drains s u w) (hfx : s.fx = KFlags.empty)
    (hc : pendingOf s.cw w = 0#6 → c { s with sw := w &&& 0xFF7F#16 } = commit (w &&& 0xFF7F#16)) :
    settles i s w commit := by
  rw [hd.funnel hfx] at he
  constructor
  · intro hp
    rw [he, if_pos hp, hc hp, finish_done]
  · intro hp
    rw [he, if_neg hp, finish_afterRequest]

/-- ST(i) written where the commit starts. -/
theorem writeStack_commit {i : Slot} {x : Fx80} {sw : Word} (h : topOf sw = s.top) :
    writeStack i x { s with sw := sw } = written i x sw s := by
  have hphys : ({ s with sw := sw } : State).phys i = s.top + i := congrArg (· + i) h
  rw [writeStack, hphys]
  rfl

/-- ES is none of the bits of a stack underflow. -/
theorem underflowed_clearES (sw : Word) : underflowed (underflowed sw &&& 0xFF7F#16) =
    underflowed sw &&& 0xFF7F#16 := by
  have hcomm (x : Word) : underflowed (x &&& 0xFF7F#16) = underflowed x &&& 0xFF7F#16 := by
    have hbits : ∀ k < 16, (0x0041#16).getLsbD k = true → (0xFF7F#16).getLsbD k = true := by decide
    refine word_ext fun k hk => ?_
    have hb := hbits k hk
    simp only [underflowed, BitVec.getLsbD_and, BitVec.getLsbD_or]
    cases h41 : (0x0041#16).getLsbD k with
    | false => rw [Bool.or_false, Bool.or_false, Bool.and_right_comm]
    | true => rw [hb h41, Bool.or_true, Bool.or_true, Bool.and_true]
  rw [hcomm, underflowed_idem]

/-- The pop of a commit: of an occupied top, or of an EMPTY one whose stack underflow, found by the checks, is
masked. -/
theorem popIf_commit {t : State} (b : Bool)
    (h : t.isEmpty 0 = true → t.cw.getLsbD 0 = true ∧ underflowed t.sw = t.sw) : popIf b t = poppedIf b t.sw t := by
  cases b with
  | false => rfl
  | true =>
    show pop t = _
    cases he : t.isEmpty 0 with
    | false => exact pop_occupied t he
    | true =>
      obtain ⟨hm, hu⟩ := h he
      rw [pop_spec, if_pos he, if_pos hm, hu]

/-- IE is masked where nothing is pending after a stack underflow. -/
theorem masked_IE_of_underflowed {cw sw : Word} (h : pendingOf cw (underflowed sw) = 0#6) : cw.getLsbD 0 = true :=
  (pendingOf_eq_zero_iff _ _).mp h 0 (by decide) (underflowed_IE sw)

/-! ## The result of the arithmetic family in the terms of the claims -/

/-- An operation in a narrow format, and SW with the flags of the two narrowings and of the operation
(40_kernel_and_protocol.md R156). -/
def narrowOut (op : ArithOp) (f : Fmt) (x y : Fx80) (s : State) : Fx80 × Word :=
  let p := narrow f s.rm x
  let q := narrow f s.rm y
  let r := kOp op f s.kmode p.1 q.1
  (widen f r.1, s.sw ||| latchMask p.2 ||| latchMask q.2 ||| latchMask r.2)

/-- The result of an operation on an ordered pair, and SW with the latches (43_arithmetic.md R270, R272, R273). -/
def pairOut (op : ArithOp) (x y : Fx80) (s : State) : Fx80 × Word :=
  if precheck op x y then (indef, invalidated s.sw)
  else if pcOf s.cw = 0#2 then narrowOut op .f32 x y s
  else if pcOf s.cw = 2#2 then narrowOut op .f64 x y s
  else
    let r := kOp op .ext s.kmode (unpackExt x) (unpackExt y)
    (packExt r.1, s.sw ||| latchMask r.2)

/-- The claim's term for a result, by the pair of R274. -/
theorem arithOut_eq (k : ArithKind) (a b : Fx80) (s : State) :
    arithOut k a b s s.sw = if k.swapped then pairOut k.op b a s else pairOut k.op a b s := by
  cases k <;> simp only [ArithKind.swapped, Bool.false_eq_true, if_true, if_false] <;>
    exact if_congr (by simp [ArithKind.op, precheck, or_assoc, and_assoc]) rfl rfl

/-- A result of the facade and its flags added to FX. -/
def addResult (r : Fx80 × KFlags) (s : State) : Fx80 × State := (r.1, addFx r.2 s)

/-- The facade under every PC but the reserved one. -/
theorem arithPair_supported {op : ArithOp} {x y : Fx80} (hx : x.isUnsupported = false) (hy : y.isUnsupported = false)
    (hpc : pcOf s.cw ≠ 1#2) : arithPair op x y s = if precheck op x y then (indef, latch bitIE s)
      else if pcOf s.cw = 0#2 then addResult (facadeNarrow op .f32 s.kmode x y) s
      else if pcOf s.cw = 2#2 then addResult (facadeNarrow op .f64 s.kmode x y) s
      else addResult (facadeExt op s.kmode x y) s := by
  rw [arithPair, hx, hy, if_neg (by decide)]
  have hcases : ∀ pc : BitVec 2, pc ≠ 1#2 → pc = 0#2 ∨ pc = 2#2 ∨ pc = 3#2 := by decide
  rcases hcases _ hpc with h | h | h <;> rw [h] <;> rfl

theorem encodes_narrow (op : ArithOp) (f : Fmt) (x y : Fx80) (s : State) :
    Encodes s (addResult (facadeNarrow op f s.kmode x y) s) (narrowOut op f x y s) := by
  refine ⟨rfl, ?_⟩
  have h := drains_addFx (facadeNarrow op f s.kmode x y).2 s
  rw [facadeNarrow, latchMask_union, latchMask_union, ← BitVec.or_assoc, ← BitVec.or_assoc] at h
  exact h

theorem encodes_arithPair {op : ArithOp} {x y : Fx80} (hx : x.isUnsupported = false) (hy : y.isUnsupported = false)
    (hpc : pcOf s.cw ≠ 1#2) : Encodes s (arithPair op x y s) (pairOut op x y s) := by
  rw [arithPair_supported hx hy hpc]
  exact .ite Iff.rfl ⟨rfl, drains_latch_IE s⟩ (.ite Iff.rfl (encodes_narrow op .f32 x y s)
    (.ite Iff.rfl (encodes_narrow op .f64 x y s) ⟨rfl, drains_addFx _ s⟩))

/-- The result of a kind on supported operands, PC not 01 (R270, R274). -/
theorem encodes_arithResult {k : ArithKind} {a b : Fx80} (ha : a.isUnsupported = false) (hb : b.isUnsupported = false)
    (hpc : pcOf s.cw ≠ 1#2) : Encodes s (arithResult k a b s) (arithOut k a b s s.sw) := by
  rw [arithOut_eq]
  exact .ite Iff.rfl (encodes_arithPair hb ha hpc) (encodes_arithPair ha hb hpc)

/-! ## Two stack operands -/

theorem exec_arithReg {r : (Slot → Instr) × ArithKind × ArithShape} (hr : r ∈ arithRegRows) (i : Slot) (s : State) :
    exec (r.1 i) s = finish (r.1 i) (arithReg r.2.1 (r.2.2.dst i) (r.2.2.src i) (r.2.2 == .popping) s) := by
  fin_cases hr <;> rfl

/-- The operands of a shape are ST(0) and ST(i). -/
theorem anyEmpty_shape (h : ArithShape) (i : Slot) (s : State) :
    s.anyEmpty [h.dst i, h.src i] = (s.isEmpty 0 || s.isEmpty i) := by
  cases h <;> simp [State.anyEmpty, ArithShape.dst, ArithShape.src, Bool.or_comm]

/-- The result of the template on two stack operands (R270). -/
def regResult (k : ArithKind) (dst src : Slot) (s : State) : Fx80 × State :=
  if s.anyEmpty [dst, src] then (indef, checkOperands [dst, src] s)
  else arithResult k (s.st dst) (s.st src) (checkOperands [dst, src] s)

theorem arithReg_eq (k : ArithKind) (dst src : Slot) (p : Bool) (s : State) :
    arithReg k dst src p s = funnel (fun v => .done (popIf p (writeStack dst (regResult k dst src s).1 v)))
      (regResult k dst src s).2 := rfl

theorem computed_regResult (k : ArithKind) (dst src : Slot) (s : State) : Computed s (regResult k dst src s).2 :=
  .ite (computed_checkOperands _ s) ((computed_checkOperands _ s).trans (computed_arithResult _ _ _ _))

theorem checkOperands_present {is : List Slot} (h : s.anyEmpty is = false) : checkOperands is s = s := by
  rw [checkOperands, h, if_neg Bool.false_ne_true]

theorem checkOperands_absent {is : List Slot} (h : s.anyEmpty is = true) :
    checkOperands is s = setStackUnderflow s := by
  rw [checkOperands, if_pos h]

/-- The claim's term for the result. -/
def regOut (k : ArithKind) (dst src : Slot) (s : State) : Fx80 × Word :=
  if s.anyEmpty [dst, src] then (indef, underflowed s.sw) else arithOut k (s.st dst) (s.st src) s s.sw

theorem encodes_regResult {k : ArithKind} {dst src : Slot} (h : s.anyEmpty [dst, src] = false →
    (s.st dst).isUnsupported = false ∧ (s.st src).isUnsupported = false ∧ pcOf s.cw ≠ 1#2) :
    Encodes s (regResult k dst src s) (regOut k dst src s) := by
  unfold regResult regOut
  cases he : s.anyEmpty [dst, src] with
  | true =>
    rw [if_pos rfl, if_pos rfl, checkOperands_absent he]
    exact ⟨rfl, drains_setStackUnderflow s⟩
  | false =>
    obtain ⟨hd, hs, hpc⟩ := h he
    rw [if_neg Bool.false_ne_true, if_neg Bool.false_ne_true, checkOperands_present he]
    exact encodes_arithResult hd hs hpc

/-- A popping form pops where its commit starts: the top was found EMPTY by the checks, or it is occupied. -/
theorem popIf_regCommit {k : ArithKind} {dst src : Slot} {x : Fx80} (p : Bool) (h0 : 0 ∈ [dst, src])
    (htop : topOf ((regOut k dst src s).2 &&& 0xFF7F#16) = s.top)
    (hp : pendingOf s.cw (regOut k dst src s).2 = 0#6) :
    let sw := (regOut k dst src s).2 &&& 0xFF7F#16
    popIf p (writeStack dst x { s with sw := sw }) = poppedIf p sw (written dst x sw s) := by
  intro sw
  have hw : writeStack dst x { s with sw := sw } = written dst x sw s := writeStack_commit htop
  have hempty : (written dst x sw s).isEmpty 0 = true → s.isEmpty 0 = true := by
    intro he
    have hs : ({ s with sw := sw } : State).isEmpty 0 = true := isEmpty_of_writeStack (hw ▸ he)
    exact (congrArg (fun t : Slot => tagOfSlot s.tw (t + 0) == tagEmpty) htop).symm.trans hs
  rw [hw]
  refine popIf_commit p fun he => ?_
  have hany : s.anyEmpty [dst, src] = true := List.any_eq_true.mpr ⟨0, h0, hempty he⟩
  have hout : (regOut k dst src s).2 = underflowed s.sw := by rw [regOut, if_pos hany]
  refine ⟨masked_IE_of_underflowed (hout ▸ hp), ?_⟩
  show underflowed ((regOut k dst src s).2 &&& 0xFF7F#16) = (regOut k dst src s).2 &&& 0xFF7F#16
  rw [hout]
  exact underflowed_clearES s.sw

theorem zero_mem_shape (h : ArithShape) (i : Slot) : 0 ∈ [h.dst i, h.src i] := by
  cases h <;> simp [ArithShape.dst, ArithShape.src]

/-- Settles O37: the result drains as the claim says, and the commit writes and pops. -/
theorem arithmeticOnStack : Obligations.ArithmeticOnStack := by
  intro r hr i s hfx hok dst out
  have hout : out = regOut r.2.1 dst (r.2.2.src i) s := by
    rw [regOut, anyEmpty_shape]
  have hsupp : s.anyEmpty [dst, r.2.2.src i] = false →
      (s.st dst).isUnsupported = false ∧ (s.st (r.2.2.src i)).isUnsupported = false ∧ pcOf s.cw ≠ 1#2 := by
    rw [anyEmpty_shape, Bool.or_eq_false_iff]
    rintro ⟨he0, hei⟩
    obtain ⟨h0, hi, hpc⟩ := (hok.resolve_left (by rw [he0]; decide)).resolve_left (by rw [hei]; decide)
    cases hshape : r.2.2 <;> simp_all [dst, ArithShape.dst, ArithShape.src]
  have henc := encodes_regResult (k := r.2.1) hsupp
  have htop := henc.state.topOf_eq (computed_regResult _ _ _ s) hfx
  have he := exec_arithReg hr i s
  rw [arithReg_eq, henc.image] at he
  rw [hout]
  refine settles_of_drains he henc.state hfx fun hp => ?_
  exact popIf_regCommit _ (zero_mem_shape _ i) htop hp

end Sys2Proof.Machine
end

section
/-! SUPPORT. The arithmetic whose result is open (40_kernel_and_protocol.md R136, R156; notes/assumptions/8.md,
9.md). -/

namespace Sys2Proof.Machine

variable {s t u : State} {w : Word}

/-! ## What an open result leaves alone -/

/-- `t` is `s` after an instruction that used two free values and may have changed the register stack, SW, the request
for a math fault and the cycle counter (notes/assumptions/8.md, 9.md). -/
structure OpenKept (s t : State) : Prop where
  free : t.free = s.free + 2
  cw : t.cw = s.cw
  mem : t.mem = s.mem
  ax : t.ax = s.ax
  flags : t.zf = s.zf ∧ t.pf = s.pf ∧ t.cf = s.cf
  fx : t.fx = KFlags.empty
  rm : t.rm = s.rm
  pointers : t.fip = s.fip ∧ t.fdp = s.fdp ∧ t.fop = s.fop
  hostFault : t.hostFault = s.hostFault

/-- `s` after two free values, with a status word and a request of its own. -/
def opened (s : State) (sw : Word) (mf : Bool) : State := { s with sw := sw, mfRequest := mf, free := s.free + 2 }

theorem openKept_opened (hfx : s.fx = KFlags.empty) (sw : Word) (mf : Bool) : OpenKept s (opened s sw mf) :=
  ⟨rfl, rfl, rfl, rfl, ⟨rfl, rfl, rfl⟩, hfx, rfl, ⟨rfl, rfl, rfl⟩, rfl⟩

theorem openKept_writeStack {i : Slot} {x : Fx80} (h : OpenKept s t) : OpenKept s (writeStack i x t) :=
  ⟨h.free, h.cw, h.mem, h.ax, h.flags, h.fx, h.rm, h.pointers, h.hostFault⟩

theorem openKept_poppedIf {b : Bool} (sw : Word) (h : OpenKept s t) : OpenKept s (poppedIf b sw t) := by
  cases b <;> exact ⟨h.free, h.cw, h.mem, h.ax, h.flags, h.fx, h.rm, h.pointers, h.hostFault⟩

theorem openKept_cycles {n : ℕ} (h : OpenKept s t) : OpenKept s { t with cycles := n } :=
  ⟨h.free, h.cw, h.mem, h.ax, h.flags, h.fx, h.rm, h.pointers, h.hostFault⟩

/-! ## The high byte of SW -/

theorem or_high {c : Word} (h : c &&& 0xFF00#16 = 0#16) (sw : Word) : (sw ||| c) &&& 0xFF00#16 = sw &&& 0xFF00#16 := by
  refine word_ext fun k hk => ?_
  have hb : (c.getLsbD k && (0xFF00#16).getLsbD k) = false := by
    rw [← BitVec.getLsbD_and, h, BitVec.getLsbD_zero]
  rw [BitVec.getLsbD_and, BitVec.getLsbD_and, BitVec.getLsbD_or, Bool.and_or_distrib_right, hb, Bool.or_false]

theorem clearES_high (sw : Word) : (sw &&& 0xFF7F#16) &&& 0xFF00#16 = sw &&& 0xFF00#16 := by
  rw [BitVec.and_assoc]
  rfl

theorem latchMask_high (f : KFlags) : latchMask f &&& 0xFF00#16 = 0#16 := by
  obtain ⟨i, z, o, n, p⟩ := f
  revert i z o n p
  decide

/-- Bits of the high byte. -/
theorem mask_of_high {v w m : Word} (hm : 0xFF00#16 &&& m = m) (h : w &&& 0xFF00#16 = v &&& 0xFF00#16) :
    w &&& m = v &&& m := by
  rw [← hm, ← BitVec.and_assoc, h, BitVec.and_assoc]

theorem putTop_mask (sw : Word) (t : Slot) : putTop sw t &&& 0xC700#16 = sw &&& 0xC700#16 := by
  have hbits : ∀ k < 16, (0xC700#16).getLsbD k = true → k < 11 ∨ 13 < k := by decide
  refine word_ext fun k hk => ?_
  rw [BitVec.getLsbD_and, BitVec.getLsbD_and]
  cases hb : (0xC700#16).getLsbD k with
  | false => rw [Bool.and_false, Bool.and_false]
  | true => rw [putTop_getLsbD _ _ _ (hbits k hk hb)]

/-! ## The funnel of an open result -/

/-- A free result, then the funnel: the commit starts, or the funnel fails; of SW only the latches and ES have
changed. -/
theorem exec_freeResult {i : Instr} {c : State → State} (hfx : s.fx = KFlags.empty)
    (he : exec i s = finish i (funnel (fun v => .done (c v)) (freeResult s).2)) :
    ∃ sw mf n, sw &&& 0xFF00#16 = s.sw &&& 0xFF00#16 ∧
      (exec i s = .next { c (opened s sw mf) with cycles := n } ∨
        exec i s = .next { opened s sw mf with cycles := n }) := by
  let f := flagsOfBits (drawn 5 (skipFree s))
  have hd : Drains (opened s s.sw s.mfRequest) (freeResult s).2 (s.sw ||| latchMask f) := drains_addFx f _
  have hhigh : (s.sw ||| latchMask f) &&& 0xFF00#16 = s.sw &&& 0xFF00#16 := or_high (latchMask_high f) s.sw
  rw [hd.funnel hfx] at he
  split at he
  · exact ⟨_, _, _, (clearES_high _).trans hhigh, .inl he⟩
  · rw [finish_afterRequest] at he
    obtain ⟨n, hn⟩ := afterTrap_eq i (suppressed (opened s s.sw s.mfRequest) (s.sw ||| latchMask f))
    rw [hn] at he
    exact ⟨_, _, n, (or_high (c := 0x0080#16) (by decide) _).trans hhigh, .inr he⟩

theorem topOf_of_high {sw : Word} (h : sw &&& 0xFF00#16 = s.sw &&& 0xFF00#16) : topOf sw = s.top :=
  topOf_of_mask (mask_of_high (by decide) h)

/-- The stack where the commit of an open result starts. -/
theorem stackMoved_opened {ws gs : List Slot} {mv : Slot} {sw : Word} {mf : Bool}
    (hsw : sw &&& 0xFF00#16 = s.sw &&& 0xFF00#16) (h : StackMoved ws gs mv (opened s sw mf) t) :
    StackMoved ws gs mv s t :=
  h.of_eq rfl rfl (topOf_of_high hsw)

theorem arithPair_open {op : ArithOp} {x y : Fx80}
    (h : x.isUnsupported = true ∨ y.isUnsupported = true ∨ (pcOf s.cw = 1#2 ∧ precheck op x y = false)) :
    arithPair op x y s = freeResult s := by
  unfold arithPair
  split
  · rfl
  · next hs =>
    rw [Bool.or_eq_true, not_or] at hs
    obtain ⟨hpc, hpre⟩ := (h.resolve_left hs.1).resolve_left hs.2
    rw [hpre, if_neg Bool.false_ne_true, hpc]
    rfl

theorem precheck_comm (op : ArithOp) (x y : Fx80) : precheck op x y = precheck op y x := by
  cases op <;> simp only [precheck, Bool.or_comm x.isSnan, Bool.and_comm x.isInf, BEq.comm (a := x.sign), bne]

/-- An open result of either order of the operands. -/
theorem arithResult_open {k : ArithKind} {a b : Fx80}
    (h : a.isUnsupported = true ∨ b.isUnsupported = true ∨ (pcOf s.cw = 1#2 ∧ precheck k.op a b = false)) :
    arithResult k a b s = freeResult s := by
  unfold arithResult
  split
  · rw [precheck_comm] at h
    exact arithPair_open (or_left_comm.mp h)
  · exact arithPair_open h

/-! ## With a memory operand -/

theorem exec_arithMem {r : (MemOperand → Instr) × ArithKind × MemSrc} (hr : r ∈ arithMemRows) (m : MemOperand)
    (s : State) : exec (r.1 m) s = finish (r.1 m) (arithMem r.2.1 r.2.2 m s) := by
  fin_cases hr <;> rfl

/-- The template on a readable operand that is no signaling NaN, ST(0) present. -/
theorem arithMem_present {k : ArithKind} {f : MemSrc} {m : MemOperand} (hm : s.readable m f.bytes)
    (h0 : s.isEmpty 0 = false) (hw : f.signals (s.mem.readLE f.bytes m.ea) = false) :
    arithMem k f m s =
      funnel (fun v => .done (writeStack 0 (arithResult k (s.st 0) (f.value (s.mem.readLE f.bytes m.ea)) s).1 v))
        (arithResult k (s.st 0) (f.value (s.mem.readLE f.bytes m.ea)) s).2 := by
  have hany : s.anyEmpty [0] = false := by
    rw [State.anyEmpty, List.any_cons, h0]
    rfl
  have hd : f.decode (s.mem.readLE f.bytes m.ea) = (f.value (s.mem.readLE f.bytes m.ea), false) := by
    rw [MemSrc.decode_eq, hw, if_neg Bool.false_ne_true]
  rw [arithMem, memSource_readable _ _ _ _ hm, hd]
  simp only [latchIf, Bool.false_eq_true, if_false, checkOperands_present hany, h0, Bool.or_false]

/-- An open result with a memory operand is written to ST(0), or the funnel fails. -/
theorem openArithMem {r : (MemOperand → Instr) × ArithKind × MemSrc} (hr : r ∈ arithMemRows) {m : MemOperand}
    (hfx : s.fx = KFlags.empty) (hm : s.readable m r.2.2.bytes) (h0 : s.isEmpty 0 = false)
    (hw : r.2.2.signals (s.mem.readLE r.2.2.bytes m.ea) = false)
    (h : (s.st 0).isUnsupported = true ∨
      (pcOf s.cw = 1#2 ∧ precheck r.2.1.op (s.st 0) (r.2.2.value (s.mem.readLE r.2.2.bytes m.ea)) = false)) :
    ∃ t, exec (r.1 m) s = .next t ∧ OpenKept s t ∧ t.sw &&& 0xFF00#16 = s.sw &&& 0xFF00#16 ∧
      StackMoved [0] [0] 0 s t := by
  have he := exec_arithMem hr m s
  rw [arithMem_present hm h0 hw, arithResult_open (h.imp_right .inr)] at he
  obtain ⟨sw, mf, n, hsw, ht | ht⟩ := exec_freeResult hfx he
  · have hmoved := stackMoved_opened hsw (commit_writeStack 0 (freeResult s).1 (opened s sw mf)).moved
    exact ⟨_, ht, openKept_cycles (openKept_writeStack (openKept_opened hfx sw mf)), hsw,
      hmoved.regs, hmoved.tags, hmoved.top⟩
  · have hmoved := (stackMoved_opened hsw (.refl (opened s sw mf))).mono (List.nil_subset [0]) (List.nil_subset [0])
    exact ⟨_, ht, openKept_cycles (openKept_opened hfx sw mf), hsw, hmoved.regs, hmoved.tags, hmoved.top⟩

/-! ## On two stack operands -/

theorem isEmpty_opened {sw : Word} {mf : Bool} (h : sw &&& 0xFF00#16 = s.sw &&& 0xFF00#16) (k : Slot) :
    (opened s sw mf).isEmpty k = s.isEmpty k :=
  congrArg (fun t : Slot => tagOfSlot s.tw (t + k) == tagEmpty) (topOf_of_high h)

theorem poppedIf_mask (b : Bool) (sw : Word) (s : State) : (poppedIf b sw s).sw &&& 0xC700#16 = sw &&& 0xC700#16 := by
  cases b
  · rfl
  · exact putTop_mask sw _

/-- An open result of two stack operands is written to the destination and popped by a popping form, or the funnel
fails. -/
theorem openArithReg {r : (Slot → Instr) × ArithKind × ArithShape} (hr : r ∈ arithRegRows) {i : Slot}
    (hfx : s.fx = KFlags.empty) (h0 : s.isEmpty 0 = false) (hi : s.isEmpty i = false)
    (h : (s.st 0).isUnsupported = true ∨ (s.st i).isUnsupported = true ∨
      (pcOf s.cw = 1#2 ∧ precheck r.2.1.op (s.st 0) (s.st i) = false)) :
    ∃ t, exec (r.1 i) s = .next t ∧ OpenKept s t ∧ t.sw &&& 0xC700#16 = s.sw &&& 0xC700#16 ∧
      (StackMoved [r.2.2.dst i] ([r.2.2.dst i] ++ popSlot (r.2.2 == .popping)) (popMoves (r.2.2 == .popping)) s t ∨
        StackMoved [] [] 0 s t) := by
  have he := exec_arithReg hr i s
  have hany : s.anyEmpty [r.2.2.dst i, r.2.2.src i] = false := by rw [anyEmpty_shape, h0, hi]; rfl
  have hopen : regResult r.2.1 (r.2.2.dst i) (r.2.2.src i) s = freeResult s := by
    rw [regResult, hany, if_neg Bool.false_ne_true, checkOperands_present hany]
    refine arithResult_open ?_
    cases hshape : r.2.2 with
    | onTop => exact h
    | onSti | popping =>
      rw [precheck_comm] at h
      exact or_left_comm.mp h
  rw [arithReg_eq, hopen] at he
  obtain ⟨sw, mf, n, hsw, ht | ht⟩ := exec_freeResult hfx he
  · have hmask : sw &&& 0xC700#16 = s.sw &&& 0xC700#16 := mask_of_high (by decide) hsw
    have hpresent (he : (opened s sw mf).isEmpty 0 = true) : False := by
      rw [isEmpty_opened hsw, h0] at he
      cases he
    have hmoved := stackMoved_opened hsw (commit_writePop (r.2.2.dst i) (freeResult s).1 (r.2.2 == .popping)
      fun he => (hpresent he).elim).moved
    have hpop := popIf_commit (r.2.2 == .popping) (t := writeStack (r.2.2.dst i) (freeResult s).1 (opened s sw mf))
      fun he => (hpresent (isEmpty_of_writeStack he)).elim
    rw [hpop] at ht hmoved
    refine ⟨_, ht, openKept_cycles (openKept_poppedIf _ (openKept_writeStack (openKept_opened hfx sw mf))),
      (poppedIf_mask _ _ _).trans hmask, .inl ⟨hmoved.regs, hmoved.tags, hmoved.top⟩⟩
  · have hmoved := stackMoved_opened hsw (.refl (opened s sw mf))
    exact ⟨_, ht, openKept_cycles (openKept_opened hfx sw mf), mask_of_high (by decide) hsw,
      .inr ⟨hmoved.regs, hmoved.tags, hmoved.top⟩⟩

/-! ## The statement -/

/-- Settles O38: the result is free, and the commit writes and pops, or the funnel fails. -/
theorem openArithmeticRuns : Obligations.OpenArithmeticRuns := by
  constructor
  · intro r hr m s hfx hm w h0 hw h
    obtain ⟨t, ht, hk, hsw, hmoved⟩ := openArithMem hr hfx hm h0 hw h
    obtain ⟨hfree, hcw, hmem, hax, ⟨hzf, hpf, hcf⟩, hfx', hrm, ⟨hfip, hfdp, hfop⟩, hfault⟩ := hk
    have hother (p : Slot) (hp : p ≠ s.top) : p ∉ [0].map (s.top + ·) := by
      have h0 : s.top + 0 = s.top := BitVec.add_zero _
      rw [List.map_singleton, List.mem_singleton, h0]
      exact hp
    exact ⟨t, ht, hfree, hcw, hmem, hax, hzf, hpf, hcf, hfx', hrm, hfip, hfdp, hfop, hfault, hsw,
      fun p hp => ⟨hmoved.regs p (hother p hp), hmoved.tags p (hother p hp)⟩⟩
  · intro r hr i s hfx h0 hi h
    obtain ⟨t, ht, hk, hsw, hmoved⟩ := openArithReg hr hfx h0 hi h
    obtain ⟨hfree, hcw, hmem, hax, ⟨hzf, hpf, hcf⟩, hfx', hrm, ⟨hfip, hfdp, hfop⟩, hfault⟩ := hk
    have htop0 : s.top + 0 = s.top := BitVec.add_zero _
    refine ⟨t, ht, hfree, hcw, hmem, hax, hzf, hpf, hcf, hfx', hrm, hfip, hfdp, hfop, hsw, ?_⟩
    rcases hmoved with hm | hm
    · refine ⟨fun hne => ?_, fun p hp => hm.regs p ?_, fun p hp hp0 => hm.tags p ?_⟩
      · have hb : (r.2.2 == ArithShape.popping) = false := beq_eq_false_iff_ne.mpr hne
        rw [hm.top, hb]
        exact htop0
      · rwa [List.map_singleton, List.mem_singleton]
      · rw [List.map_append, List.mem_append, not_or, List.map_singleton, List.mem_singleton]
        refine ⟨hp, ?_⟩
        by_cases hpop : r.2.2 = .popping
        · rw [hpop]
          show p ∉ [0].map (s.top + ·)
          rw [List.map_singleton, List.mem_singleton, htop0]
          exact hp0 hpop
        · rw [beq_eq_false_iff_ne.mpr hpop]
          exact List.not_mem_nil
    · exact ⟨fun _ => hm.top.trans htop0, fun p _ => hm.regs p List.not_mem_nil,
        fun p _ _ => hm.tags p List.not_mem_nil⟩

end Sys2Proof.Machine
end

section
/-! SUPPORT. The transcendental instructions with two results (46_transcendental.md R400, R402, R406, R410). -/

namespace Sys2Proof.Machine

variable {s t u : State} {w : Word}

/-! ## Checks and computation in steps -/

theorem Drains.latch_IE (h : Drains s u w) : Drains s (latch bitIE u) (invalidated w) := by
  obtain ⟨sw, fx, hw, rfl⟩ := h
  refine ⟨invalidated sw, fx, ?_, rfl⟩
  rw [invalidated, invalidated, BitVec.or_assoc, BitVec.or_comm 1#16, ← BitVec.or_assoc, hw]
  ac_rfl

theorem Drains.setStackOverflow (h : Drains s u w) : Drains s (setStackOverflow u) (overflowed w) := by
  obtain ⟨sw, fx, hw, rfl⟩ := h
  refine ⟨_, fx, ?_, rfl⟩
  have hsw : putBit (putBit (putBit sw bitSF true) bitIE true) bitC1 true = overflowed sw :=
    setStackOverflow_mask { s with sw := sw, fx := fx }
  show putBit (putBit (putBit sw bitSF true) bitIE true) bitC1 true ||| _ = _
  rw [hsw, overflowed, overflowed, BitVec.or_assoc, BitVec.or_comm 0x0241#16, ← BitVec.or_assoc, hw]
  ac_rfl

/-- A widened result after a computation (46_transcendental.md R402). -/
theorem Drains.fromD (h : Drains s u w) (x : BitVec 64) :
    Drains s (fromD x u).2 (if (unpackF64 x).isNan then invalidated w else w) := by
  unfold Machine.fromD
  split
  · exact h.latch_IE
  · exact h

theorem fromD_fst (x : BitVec 64) (u : State) :
    (fromD x u).1 = if (unpackF64 x).isNan then indef else kFromF64 x := by
  unfold fromD
  split <;> rfl

/-- A binary64 word is infinite when its exponent bits are set and its fraction is zero. -/
theorem unpackF64_isInf (x : BitVec 64) : (unpackF64 x).isInf = true ↔ x &&& 0x7FFFFFFFFFFFFFFF#64 = d64Inf := by
  have hmask : x &&& 0x7FFFFFFFFFFFFFFF#64 = d64Inf ↔ x.toNat % 2 ^ 63 = 0x7FF0000000000000 := by
    rw [← BitVec.toNat_inj, BitVec.toNat_and, ← Nat.and_two_pow_sub_one_eq_mod]
    rfl
  rw [hmask, unpackF64, unpackNarrow]
  have hx := x.isLt
  split
  · split <;> simp only [Val.isInf, Bool.false_eq_true, false_iff, true_iff] <;> omega
  · split
    · split <;> simp only [Val.isInf, Bool.false_eq_true, false_iff] <;> omega
    · simp only [Val.isInf, Bool.false_eq_true, false_iff]
      omega

/-! ## The two results in the terms of the claims -/

/-- Two results and the state after them, as the claim's terms say them. -/
structure Pairs (s : State) (r : PairResult) (a b : Fx80) (w : Word) : Prop where
  inPlace : r.inPlace = a
  pushed : r.pushed = b
  state : Drains s r.state w

/-- `transOut` of an ordinary operand: the widened result, and SW with the flags of the narrowing. -/
theorem transOut_ordinary {f : BitVec 64 → BitVec 64} {a : Fx80} (hs : a.isSnan = false) (hn : a.isNan = false)
    (s : State) :
    (transOut f a s).1 = (if (unpackF64 (f (kToF64 s.rm a).1)).isNan then indef else kFromF64 (f (kToF64 s.rm a).1)) ∧
    (transOut f a s).2 = (if (unpackF64 (f (kToF64 s.rm a).1)).isNan
      then invalidated (s.sw ||| latchMask (kToF64 s.rm a).2) else s.sw ||| latchMask (kToF64 s.rm a).2) := by
  rw [transOut, hs, hn, if_neg Bool.false_ne_true, if_neg Bool.false_ne_true]
  dsimp only
  split <;> exact ⟨rfl, rfl⟩

theorem transOut_snan {f : BitVec 64 → BitVec 64} {a : Fx80} (h : a.isSnan = true) (s : State) :
    transOut f a s = (indef, invalidated s.sw) := if_pos h

theorem transOut_nan {f : BitVec 64 → BitVec 64} {a : Fx80} (hs : a.isSnan = false) (hn : a.isNan = true) (s : State) :
    transOut f a s = (a, s.sw) := by
  rw [transOut, hs, hn, if_neg Bool.false_ne_true, if_pos rfl]

/-- What `FPTAN` pushes (R406). -/
def tanPushed (a : Fx80) (s : State) : Fx80 :=
  if a.isSnan then indef else if a.isNan then a
  else if (kToF64 s.rm a).1 &&& 0x7FFFFFFFFFFFFFFF#64 = d64Inf then indef else one

theorem pairs_tanOf {a : Fx80} (h : a.isUnsupported = false) (s : State) :
    Pairs s (tanOf a s) (transOut transTan a s).1 (tanPushed a s) (transOut transTan a s).2 := by
  rw [tanOf, h, if_neg Bool.false_ne_true, tanPushed]
  cases hs : a.isSnan with
  | true =>
    rw [transOut_snan hs, if_pos rfl, if_pos rfl]
    exact ⟨rfl, rfl, drains_latch_IE s⟩
  | false =>
    rw [if_neg Bool.false_ne_true, if_neg Bool.false_ne_true]
    cases hn : a.isNan with
    | true =>
      rw [transOut_nan hs hn, if_pos rfl, if_pos rfl]
      exact ⟨rfl, rfl, drains_refl s⟩
    | false =>
      obtain ⟨h1, h2⟩ := transOut_ordinary (f := transTan) hs hn s
      rw [h1, h2, if_neg Bool.false_ne_true, if_neg Bool.false_ne_true]
      exact ⟨fromD_fst _ _, if_congr (unpackF64_isInf _) rfl rfl, (drains_addFx _ s).fromD _⟩

theorem pairs_sincosOf {a : Fx80} (h : a.isUnsupported = false) (s : State) :
    Pairs s (sincosOf a s) (transOut transSin a s).1 (transOut transCos a s).1
      ((transOut transSin a s).2 ||| (transOut transCos a s).2) := by
  rw [sincosOf, h, if_neg Bool.false_ne_true]
  cases hs : a.isSnan with
  | true =>
    rw [transOut_snan hs, transOut_snan hs, if_pos rfl, BitVec.or_self]
    exact ⟨rfl, rfl, drains_latch_IE s⟩
  | false =>
    rw [if_neg Bool.false_ne_true]
    cases hn : a.isNan with
    | true =>
      rw [transOut_nan hs hn, transOut_nan hs hn, if_pos rfl, BitVec.or_self]
      exact ⟨rfl, rfl, drains_refl s⟩
    | false =>
      obtain ⟨hsin, hsinw⟩ := transOut_ordinary (f := transSin) hs hn s
      obtain ⟨hcos, hcosw⟩ := transOut_ordinary (f := transCos) hs hn s
      have hor (x : Word) (p q : Bool) : (if p then invalidated x else x) ||| (if q then invalidated x else x) =
          if q then invalidated (if p then invalidated x else x) else if p then invalidated x else x := by
        have hself : invalidated x ||| x = invalidated x := by
          rw [invalidated, BitVec.or_comm, ← BitVec.or_assoc, BitVec.or_self]
        have hidem : invalidated (invalidated x) = invalidated x := by
          rw [invalidated, invalidated, BitVec.or_assoc, BitVec.or_self]
        cases p <;> cases q <;> simp [hself, hidem, BitVec.or_comm x]
      rw [hsin, hcos, hsinw, hcosw, hor, if_neg Bool.false_ne_true]
      exact ⟨fromD_fst _ _, fromD_fst _ _, ((drains_addFx _ s).fromD _).fromD _⟩

/-! ## The commit of two results -/

theorem putTop_clearC2 (sw : Word) (t : Slot) : putBit (putTop sw t) bitC2 false = putTop (sw &&& 0xFBFF#16) t := by
  have hmask : ∀ k < 16, (0xFBFF#16).getLsbD k = false → k = 10 := by decide
  have hclear : putBit (putTop sw t) bitC2 false = putTop sw t &&& 0xFBFF#16 := rfl
  rw [hclear, putTop, putTop]
  refine word_ext fun k hk => ?_
  simp only [BitVec.getLsbD_and, BitVec.getLsbD_or]
  cases hm : (0xFBFF#16).getLsbD k with
  | true => simp
  | false =>
    rw [hmask k hk hm]
    simp

theorem topOf_clearC2 (sw : Word) : topOf (sw &&& 0xFBFF#16) = topOf sw := topOf_putBit_C2 sw false

theorem pushed_of_top {x : Fx80} {tg : BitVec 2} {sw : Word} (h : t.top = s.top) : pushed x tg sw t =
    { t with sw := putTop sw (s.top + 7), regs := t.regs.set (s.top + 7).toNat x,
             tw := putTag t.tw (s.top + 7) tg } := by
  simp only [pushed, h]

/-- The write in place, the push, and C2 cleared (R400). -/
theorem clearC2_pair_commit {sw : Word} (h : topOf sw = s.top) (a b : Fx80) :
    clearC2 (pushCommit b (tagOf b) (writeStack 0 a { s with sw := sw })) =
      pushed b (tagOf b) (sw &&& 0xFBFF#16) (written 0 a (sw &&& 0xFBFF#16) s) := by
  have htop : (written 0 a sw s).top = s.top := h
  have htop' : (written 0 a (sw &&& 0xFBFF#16) s).top = s.top := (topOf_clearC2 sw).trans h
  rw [writeStack_commit h, pushCommit_spec, pushed_of_top htop, pushed_of_top htop', ← putTop_clearC2]
  dsimp only [clearC2, written]

/-- The results of a template with two results before its push check. -/
def pairResult (f : Fx80 → State → PairResult) (s : State) : PairResult :=
  if s.isEmpty 0 then PairResult.both indef (checkOperands [0] s) else f (s.st 0) (checkOperands [0] s)

theorem computed_pairResult {f : Fx80 → State → PairResult} (hf : ∀ a t, Computed t (f a t).state) (s : State) :
    Computed s (pairResult f s).state :=
  (computed_checkOperands [0] s).trans (.ite (st := PairResult.state) (.refl _) (hf _ _))

theorem anyEmpty_singleton (i : Slot) (s : State) : s.anyEmpty [i] = s.isEmpty i := by simp [State.anyEmpty]

theorem pairs_absent {f : Fx80 → State → PairResult} (h : s.isEmpty 0 = true) :
    Pairs s (pairResult f s) indef indef (underflowed s.sw) := by
  rw [pairResult, if_pos h, checkOperands_absent ((anyEmpty_singleton 0 s).trans h)]
  exact ⟨rfl, rfl, drains_setStackUnderflow s⟩

theorem pairResult_present {f : Fx80 → State → PairResult} (h : s.isEmpty 0 = false) :
    pairResult f s = f (s.st 0) s := by
  rw [pairResult, h, if_neg Bool.false_ne_true, checkOperands_present ((anyEmpty_singleton 0 s).trans h)]

/-- An instruction with two results settles by its results and its push check, the last to be made (R400;
notes/assumptions/12.md). -/
theorem settles_pair {i : Instr} {f : Fx80 → State → PairResult} {a b : Fx80}
    (he : exec i s = finish i (pairTop clearC2 f s)) (hfx : s.fx = KFlags.empty)
    (hf : ∀ a t, Computed t (f a t).state) (hr : Pairs s (pairResult f s) a b w) :
    settles i s (if !s.isEmpty 7 then overflowed w else w) fun sw =>
      pushed (if !s.isEmpty 7 then indef else b) (tagOf (if !s.isEmpty 7 then indef else b)) (sw &&& 0xFBFF#16)
        (written 0 (if !s.isEmpty 7 then indef else a) (sw &&& 0xFBFF#16) s) := by
  obtain ⟨ha, hb, hd⟩ := hr
  have hcomp := computed_pairResult hf s
  have hfull : (pairResult f s).state.full = !s.isEmpty 7 := by rw [State.full, hcomp.isEmpty_eq]
  have hpush : Drains s (pushCheck (pairResult f s).state) (if !s.isEmpty 7 then overflowed w else w) := by
    rw [pushCheck, hfull]
    split
    · exact hd.setStackOverflow
    · exact hd
  have hpair : pairTop clearC2 f s = pairCommit clearC2 (pairResult f s) := rfl
  rw [hpair, pairCommit, hfull, ha, hb] at he
  exact settles_of_drains he hpush hfx fun _ =>
    clearC2_pair_commit (hpush.topOf_eq (hcomp.trans (computed_pushCheck _)) hfx) _ _

/-- Settles O51: the two results of each instruction, an EMPTY top and a present one apart. -/
theorem transcendentalsThatPush : Obligations.TranscendentalsThatPush := by
  intro s hfx hok a full run tan tan2 sin cos p q sw
  have hfst (x y : Fx80) : (if full then (indef, indef) else (x, y)).1 = if !s.isEmpty 7 then indef else x :=
    apply_ite Prod.fst _ _ _
  have hsnd (x y : Fx80) : (if full then (indef, indef) else (x, y)).2 = if !s.isEmpty 7 then indef else y :=
    apply_ite Prod.snd _ _ _
  have hresults : Pairs s (pairResult tanOf s) tan.1 tan2 tan.2 ∧ Pairs s (pairResult sincosOf s) sin.1 cos.1 sw := by
    cases he : s.isEmpty 0 with
    | true =>
      have hrun (f : BitVec 64 → BitVec 64) : run f = (indef, underflowed s.sw) := if_pos he
      have htan2 : tan2 = indef := if_pos (.inl he)
      have hsw : sw = underflowed s.sw := by
        show (run transSin).2 ||| (run transCos).2 = _
        rw [hrun, hrun, BitVec.or_self]
      rw [htan2, hsw, show tan = _ from hrun _, show sin = _ from hrun _, show cos = _ from hrun _]
      exact ⟨pairs_absent he, pairs_absent he⟩
    | false =>
      have hrun (f : BitVec 64 → BitVec 64) : run f = transOut f a s := if_neg (by rw [he]; decide)
      have hsupp : a.isUnsupported = false := hok.resolve_left (by rw [he]; decide)
      have htan2 : tan2 = tanPushed a s := if_congr (by rw [he]; simp) rfl rfl
      have hsw : sw = (transOut transSin a s).2 ||| (transOut transCos a s).2 := by rw [← hrun, ← hrun]
      rw [htan2, hsw, show tan = _ from hrun _, show sin = _ from hrun _, show cos = _ from hrun _,
        pairResult_present he, pairResult_present he]
      exact ⟨pairs_tanOf hsupp s, pairs_sincosOf hsupp s⟩
  obtain ⟨htan, hsincos⟩ := hresults
  constructor
  · show settles .fptan s _ fun u => pushed p.2 (tagOf p.2) _ (written 0 p.1 _ s)
    rw [show p.1 = _ from hfst _ _, show p.2 = _ from hsnd _ _]
    exact settles_pair rfl hfx computed_tanOf htan
  · rw [show q.1 = _ from hfst _ _, show q.2 = _ from hsnd _ _]
    exact settles_pair rfl hfx computed_sincosOf hsincos

end Sys2Proof.Machine
end

section
/-! The statement of 42_load_store.md on the loads from memory (41_codecs.md R191 to R193; 42_load_store.md R220 to
R223, R225 to R228). -/

namespace Sys2Proof.Machine

variable {s u : State} {w : Word}

/-! ## The load template -/

/-- A push where the commit starts. -/
theorem pushCommit_commit {x : Fx80} {tg : BitVec 2} {sw : Word} (h : topOf sw = s.top) :
    pushCommit x tg { s with sw := sw } = pushed x tg sw s := by
  have htop : ({ s with sw := sw } : State).top = s.top := h
  rw [pushCommit_spec, pushed_of_top htop]
  rfl

/-- The push check on top of a computation (40_kernel_and_protocol.md R160). -/
theorem Drains.pushCheck (h : Drains s u w) (hc : Computed s u) :
    Drains s (pushCheck u) (if !s.isEmpty 7 then overflowed w else w) := by
  rw [Machine.pushCheck, State.full, hc.isEmpty_eq]
  split
  · exact h.setStackOverflow
  · exact h

/-- A handler that ends in the load template settles as the push of its value, or of INDEF on a full stack (R220). -/
theorem settles_load {i : Instr} {x : Fx80} (he : exec i s = finish i (load x u)) (hfx : s.fx = KFlags.empty)
    (hc : Computed s u) (hd : Drains s u w) :
    settles i s (if !s.isEmpty 7 then overflowed w else w) fun sw =>
      pushed (if !s.isEmpty 7 then indef else x) (tagOf (if !s.isEmpty 7 then indef else x)) sw s := by
  have hpush := hd.pushCheck hc
  rw [load, State.full, hc.isEmpty_eq] at he
  exact settles_of_drains he hpush hfx fun _ =>
    pushCommit_commit (hpush.topOf_eq (hc.trans (computed_pushCheck u)) hfx)

/-! ## The memory operands -/

/-- A real image is screened for a signaling NaN and for a denormal (41_codecs.md R191 to R193). -/
theorem loadReal_readable {f : MemSrc} {m : MemOperand} (hm : s.readable m f.bytes) :
    let x := s.mem.readLE f.bytes m.ea
    let bad := f.signals x || f.tiny x
    loadReal f m s = load (if bad then indef else f.value x) (latchIf bad bitIE s) := by
  rw [loadReal, memWord_readable _ _ _ _ hm, MemSrc.decode_eq, MemSrc.denormal_eq]
  generalize s.mem.readLE f.bytes m.ea = x
  cases hs : f.signals x <;> cases ht : f.tiny x <;> simp [hs, ht, latchIf]

/-- An integer image passes the screens (41_codecs.md R197). -/
theorem loadInt_readable {n : IntWidth} {m : MemOperand} (hm : s.readable m n.bytes) :
    loadInt n m s = load ((MemSrc.int n).value (s.mem.readLE n.bytes m.ea)) s :=
  memSource_readable (.int n) m s _ hm

/-- The handler of a converting load, by the format of its operand (R221, R222, R225 to R227). -/
def loadFrom (f : MemSrc) (m : MemOperand) (s : State) : Ended :=
  match f with
  | .f32 => loadReal .f32 m s
  | .f64 => loadReal .f64 m s
  | .int n => loadInt n m s

theorem exec_loadRow {r : (MemOperand → Instr) × MemSrc} (hr : r ∈ loadRows) (m : MemOperand) (s : State) :
    exec (r.1 m) s = finish (r.1 m) (loadFrom r.2 m s) := by
  fin_cases hr <;> rfl

/-- What a converting load of a readable operand loads. -/
theorem loadFrom_readable {f : MemSrc} {m : MemOperand} (hm : s.readable m f.bytes) :
    let x := s.mem.readLE f.bytes m.ea
    let bad := f.signals x || f.tiny x
    loadFrom f m s = load (if bad then indef else f.value x) (latchIf bad bitIE s) := by
  cases f with
  | f32 | f64 => exact loadReal_readable hm
  | int n => exact loadInt_readable hm

theorem drains_latchIf_IE (b : Bool) (s : State) :
    Drains s (latchIf b bitIE s) (if b then invalidated s.sw else s.sw) := by
  cases b
  · exact drains_refl s
  · exact drains_latch_IE s

/-- Settles O30: each load ends in the load template, on the value its image has or on INDEF for a screened one. -/
theorem loadPushesOperand : Obligations.LoadPushesOperand := by
  constructor
  · intro r hr m s hfx hm x bad full v sw
    have hv : v = if full then indef else if bad then indef else r.2.value x := by
      cases hbad : bad <;> cases hfull : full <;> simp [v, hbad, hfull]
    rw [hv]
    have he := (exec_loadRow hr m s).trans (congrArg (finish _) (loadFrom_readable hm))
    exact settles_load he hfx (computed_latchIf_IE _ s) (drains_latchIf_IE _ s)
  · intro m s hfx hm full sw image v d
    have hreal : exec (.fldM80real m) s = finish (.fldM80real m) (load image s) :=
      congrArg (finish _) (memSource80_readable m s _ hm)
    have hbcd : exec (.fbld m) s = finish (.fbld m) (load (decBcd image) s) :=
      congrArg (finish _) (memSource80_readable m s _ hm)
    exact ⟨settles_load hreal hfx (.refl s) (drains_refl s), settles_load hbcd hfx (.refl s) (drains_refl s)⟩

end Sys2Proof.Machine
end

section
/-! The statement of 41_codecs.md on integers and packed-BCD numbers (40_kernel_and_protocol.md R154; 41_codecs.md R197,
R198, R205 to R208). -/

namespace Sys2Proof.Machine

/-! ## Integers -/

theorem extInteger_of_lt {n : ℕ} (h : n < 2 ^ 64) : ExtInteger n := by
  by_cases hn : n = 0
  · exact .inl hn
  · have hlog : n.log2 < 64 := (Nat.log2_lt hn).mpr h
    exact .inr ⟨n, 0, hn, h, by simp, by omega⟩

theorem sign_encNat (s : Bool) {n : ℕ} (h : ExtInteger n) : (encNat s n).sign = s := by
  by_cases hn : n = 0
  · rw [hn, encNat_zero, sign_highWord s (by decide)]
  · exact (encNat_isNumber s hn h).sign

/-- An encoded integer is finite and in a supported encoding. -/
theorem encNat_finite (s : Bool) {n : ℕ} (h : ExtInteger n) :
    (encNat s n).isFinite = true ∧ (encNat s n).isUnsupported = false := by
  by_cases hn : n = 0
  · rw [hn]
    cases s <;> decide
  · have hv := encNat_isNumber s hn h
    exact ⟨hv.finite, hv.supported⟩

/-- Rounding to integer leaves an encoded integer, without a flag (40_kernel_and_protocol.md R149). -/
theorem kRint_encNat (rm : Rm) (s : Bool) {n : ℕ} (h : ExtInteger n) :
    kRint rm (encNat s n) = (encNat s n, KFlags.empty) := by
  by_cases hn : n = 0
  · refine kRint_special rm (.inr ?_)
    rw [hn]
    cases s <;> decide
  · have hv := encNat_isNumber s hn h
    have habs : (n : ℝ) = _ := hv.abs
    obtain ⟨hr, hi⟩ := rintFinite_spec rm s (encNat s n).low.toNat ((max (encNat s n).exp.toNat 1 : ℕ) - 16446)
    rw [← habs] at hr hi
    rw [kRint_number rm hv]
    generalize rintFinite rm s (encNat s n).low.toNat ((max (encNat s n).exp.toNat 1 : ℕ) - 16446) = r at *
    have hval : r.1 = n := by exact_mod_cast hr.eq_of_int (z := n)
    have hflag : r.2 = false := Bool.eq_false_iff.mpr fun h => hi.mp h (by rw [hval])
    rw [hval, hflag]
    rfl

theorem not_nan_or_inf_of_finite {a : Fx80} (h : a.isFinite = true) : (a.isNan || a.isInf) = false := by
  rw [Fx80.isFinite, bne_iff_ne] at h
  simp [Fx80.isNan, Fx80.isInf, h]

theorem addFx_empty (s : State) : addFx KFlags.empty s = s := by
  simp [addFx, KFlags.union, KFlags.empty]

theorem natAbs_toInt_lt {n : ℕ} (hn : n ≤ 64) (w : BitVec n) : w.toInt.natAbs < 2 ^ 64 := by
  have hpow : (2 : ℤ) ^ (n - 1) ≤ 2 ^ 63 := pow_le_pow_right₀ (by decide) (by omega)
  have hlo := w.le_toInt
  have hhi := w.toInt_lt
  omega

/-- An integer decoded and stored in its own width is the same integer (41_codecs.md R197, R198). -/
theorem encInt_decInt {n : ℕ} (hn : n ≤ 64) (w : BitVec n) (s : State) : encInt n (decInt w) s = (w, s) := by
  have h := extInteger_of_lt (natAbs_toInt_lt hn w)
  obtain ⟨hfin, hsupp⟩ := encNat_finite (decide (w.toInt < 0)) h
  have hint : integerOf (encNat (decide (w.toInt < 0)) w.toInt.natAbs) = w.toInt := by
    rw [integerOf_encNat _ h]
    by_cases hneg : w.toInt < 0
    · rw [decide_eq_true hneg, if_pos rfl]
      omega
    · rw [decide_eq_false hneg, if_neg Bool.false_ne_true]
      omega
  have hlo := w.le_toInt
  have hhi := w.toInt_lt
  rw [decInt, kFromInt, encInt, if_supported hsupp, not_nan_or_inf_of_finite hfin, if_neg Bool.false_ne_true]
  simp only [kRint_encNat _ _ h, hint, addFx_empty]
  rw [if_neg (by omega), BitVec.ofInt_toInt]

/-! ## Decimal digits (41_codecs.md R206, R207) -/

theorem natToDigits_lt (m n : ℕ) : natToDigits m n < 16 ^ m := by
  induction m generalizing n with
  | zero => simp [natToDigits]
  | succ m ih =>
    have := ih (n / 10)
    rw [natToDigits, pow_succ]
    omega

/-- Nibble `k` of the digits of a number is its decimal digit `k`. -/
theorem natToDigits_nibble {m k : ℕ} (n : ℕ) (hk : k < m) : natToDigits m n / 16 ^ k % 16 = n / 10 ^ k % 10 := by
  induction m generalizing n k with
  | zero => omega
  | succ m ih =>
    rw [natToDigits]
    cases k with
    | zero =>
      simp only [pow_zero, Nat.div_one]
      omega
    | succ k =>
      have hdiv : (n % 10 + 16 * natToDigits m (n / 10)) / 16 = natToDigits m (n / 10) := by omega
      rw [pow_succ', pow_succ', ← Nat.div_div_eq_div_mul, ← Nat.div_div_eq_div_mul, hdiv]
      exact ih (n / 10) (by omega)

/-- The digits of a number have its value, up to the digits that are dropped. -/
theorem digitsToNat_natToDigits (m n : ℕ) : digitsToNat m (natToDigits m n) = n % 10 ^ m := by
  induction m generalizing n with
  | zero => simp [digitsToNat, Nat.mod_one]
  | succ m ih =>
    have hmod : (n % 10 + 16 * natToDigits m (n / 10)) % 16 = n % 10 := by omega
    have hdiv : (n % 10 + 16 * natToDigits m (n / 10)) / 16 = natToDigits m (n / 10) := by omega
    rw [natToDigits, digitsToNat, hmod, hdiv, ih, pow_succ', Nat.mod_mul]

/-- The value of a nibble string is the sum of its nibbles, each times its power of ten. -/
theorem digitsToNat_eq_sum (m x : ℕ) : digitsToNat m x = ∑ k ∈ Finset.range m, x / 16 ^ k % 16 * 10 ^ k := by
  induction m generalizing x with
  | zero => rfl
  | succ m ih =>
    rw [digitsToNat, ih, Finset.sum_range_succ', Finset.mul_sum, add_comm]
    congr 1
    · refine Finset.sum_congr rfl fun k _ => ?_
      rw [Nat.div_div_eq_div_mul, ← pow_succ', pow_succ' 10 k]
      ring
    · simp

theorem digitsToNat_lt (m x : ℕ) : digitsToNat m x < 16 ^ m := by
  induction m generalizing x with
  | zero => simp [digitsToNat]
  | succ m ih =>
    have := ih (x / 16)
    rw [digitsToNat, pow_succ]
    omega

/-! ## The packed-BCD image (R205 to R208) -/

/-- The eighteen nibbles of an image. -/
def bcdNibbles (v : Fx80) : ℕ := v.low.toNat + 2 ^ 64 * (v.high.toNat % 256)

/-- The value of an image by the nibbles of its two words. -/
theorem digitsToNat_bcdNibbles (v : Fx80) : digitsToNat 18 (bcdNibbles v) =
    ∑ k ∈ Finset.range 16, v.low.toNat / 16 ^ k % 16 * 10 ^ k + v.high.toNat % 16 * 10 ^ 16 +
      v.high.toNat / 16 % 16 * 10 ^ 17 := by
  have hlow := v.low.isLt
  have hnibble (k : ℕ) (hk : k ∈ Finset.range 16) : bcdNibbles v / 16 ^ k % 16 = v.low.toNat / 16 ^ k % 16 := by
    have hk := Finset.mem_range.mp hk
    have hsplit : 2 ^ 64 * (v.high.toNat % 256) = 16 ^ k * (16 * (16 ^ (15 - k) * (v.high.toNat % 256))) := by
      rw [← mul_assoc 16, ← mul_assoc, ← pow_succ', ← pow_add, show k + (15 - k + 1) = 16 by omega]
      norm_num
    rw [bcdNibbles, hsplit, Nat.add_mul_div_left _ _ (by positivity), Nat.add_mul_mod_self_left]
  have h16 : bcdNibbles v / 16 ^ 16 % 16 = v.high.toNat % 16 := by
    unfold bcdNibbles
    omega
  have h17 : bcdNibbles v / 16 ^ 17 % 16 = v.high.toNat / 16 % 16 := by
    unfold bcdNibbles
    omega
  rw [digitsToNat_eq_sum, Finset.sum_range_succ, Finset.sum_range_succ, h16, h17,
    Finset.sum_congr rfl fun k hk => by rw [hnibble k hk]]

/-- A sign put on a high word. -/
theorem withSign_highWord (s : Bool) {e : ℕ} (h : e < 2 ^ 15) (l : BitVec 64) :
    Fx80.withSign ⟨highWord false e, l⟩ s = ⟨highWord s e, l⟩ := by
  have hhigh : (highWord false e).toNat = e := by rw [highWord_toNat false h, signBit]; simp
  rw [Fx80.withSign]
  congr 1
  refine BitVec.eq_of_toNat_eq ?_
  rw [highWord_toNat s h]
  cases s
  · rw [if_neg Bool.false_ne_true, BitVec.toNat_and, hhigh]
    exact (Nat.and_two_pow_sub_one_eq_mod e 15).trans (by simpa [signBit] using h)
  · rw [if_pos rfl, BitVec.toNat_or, hhigh, Nat.or_comm]
    exact (Nat.two_pow_add_eq_or_of_lt h 1).symm

/-- A sign put on an encoded integer. -/
theorem withSign_encNat (s : Bool) {n : ℕ} (h : n < 2 ^ 72) : (encNat false n).withSign s = encNat s n := by
  by_cases hn : n = 0
  · rw [hn, encNat_zero, encNat_zero, withSign_highWord s (by decide)]
  · have hlog : n.log2 < 72 := (Nat.log2_lt hn).mpr h
    have henc (t : Bool) : encNat t n = ⟨highWord t (floorLog2 n 0 + 16383).toNat,
        BitVec.ofNat 64 (scale n (0 + 63 - floorLog2 n 0))⟩ := by
      rw [encNat, if_neg hn, packExt]
      exact if_pos (by rw [floorLog2]; omega)
    rw [henc, henc, withSign_highWord s (by rw [floorLog2]; omega)]

/-- An image decodes to its sign and the value of its nibbles (R205, R206). -/
theorem decBcd_eq (v : Fx80) : decBcd v = encNat v.sign (digitsToNat 18 (bcdNibbles v)) := by
  have h : digitsToNat 18 (bcdNibbles v) < 2 ^ 72 := (digitsToNat_lt 18 _).trans_eq (by norm_num)
  exact withSign_encNat v.sign h

/-- The words of an image of digits and a sign (R207). -/
theorem encBcd_words (s : Bool) (n : ℕ) : (encBcd s n).low.toNat = natToDigits 18 n % 2 ^ 64 ∧
    (encBcd s n).high.toNat = natToDigits 18 n / 2 ^ 64 + signBit s * 2 ^ 15 := by
  have hx := natToDigits_lt 18 n
  have hs := signBit_le_one s
  refine ⟨BitVec.toNat_ofNat _ _, (BitVec.toNat_ofNat _ _).trans (Nat.mod_eq_of_lt ?_)⟩
  omega

theorem sign_encBcd (s : Bool) (n : ℕ) : (encBcd s n).sign = s := by
  have hx := natToDigits_lt 18 n
  obtain ⟨-, hhigh⟩ := encBcd_words s n
  rw [Fx80.sign, BitVec.getLsbD, hhigh, Nat.testBit_eq_decide_div_mod_eq]
  refine (decide_eq_decide.mpr ?_).trans (decide_signBit s)
  have := signBit_le_one s
  omega

theorem bcdNibbles_encBcd (s : Bool) (n : ℕ) : bcdNibbles (encBcd s n) = natToDigits 18 n := by
  have hx := natToDigits_lt 18 n
  obtain ⟨hlow, hhigh⟩ := encBcd_words s n
  rw [bcdNibbles, hlow, hhigh]
  omega

/-- The digits of an image by the nibbles of its two words, and the bits that are written 0 (R205, R207). -/
theorem encBcd_digits (s : Bool) (n : ℕ) :
    (∀ k < 16, (encBcd s n).low.toNat / 16 ^ k % 16 = n / 10 ^ k % 10) ∧
      (encBcd s n).high.toNat % 16 = n / 10 ^ 16 % 10 ∧ (encBcd s n).high.toNat / 16 % 16 = n / 10 ^ 17 % 10 ∧
      (encBcd s n).high.extractLsb' 8 7 = 0#7 := by
  have hx := natToDigits_lt 18 n
  obtain ⟨hlow, hhigh⟩ := encBcd_words s n
  have h16 := natToDigits_nibble (m := 18) (k := 16) n (by decide)
  have h17 := natToDigits_nibble (m := 18) (k := 17) n (by decide)
  refine ⟨fun k hk => ?_, ?_, ?_, ?_⟩
  · have hpow : (2 : ℕ) ^ 64 = 16 ^ k * (16 * 16 ^ (15 - k)) := by
      rw [← pow_succ', ← pow_add, show k + (15 - k + 1) = 16 by omega]
      norm_num
    rw [← natToDigits_nibble n (by omega : k < 18), hlow, hpow, Nat.mod_mul_right_div_self, Nat.mod_mul_right_mod]
  · rw [hhigh, ← h16]
    omega
  · rw [hhigh, ← h17]
    omega
  · refine BitVec.eq_of_toNat_eq ?_
    rw [BitVec.extractLsb'_toNat, hhigh, Nat.shiftRight_eq_div_pow, BitVec.toNat_ofNat]
    omega

/-! ## The statement -/

/-- Settles O27: integers by the encoding that rounding leaves alone, packed-BCD numbers nibble by nibble. -/
theorem integerRoundTrip : Obligations.IntegerRoundTrip := by
  refine ⟨fun n hn => ?_, fun s => ⟨?_, ?_, ?_⟩, fun s n _ => ?_, fun v => ?_, fun s n hn => ?_⟩
  · have h := extInteger_of_lt hn
    exact ⟨fxIsAbs_encNat _ h, sign_encNat _ h⟩
  · exact fun w => encInt_decInt (by decide) w s
  · exact fun w => encInt_decInt (by decide) w s
  · exact fun w => encInt_decInt (by decide) w s
  · obtain ⟨hlow, h16, h17, hzero⟩ := encBcd_digits s n
    exact ⟨hlow, h16, h17, hzero, sign_encBcd s n⟩
  · rw [← digitsToNat_bcdNibbles]
    exact decBcd_eq v
  · rw [decBcd_eq, sign_encBcd, bcdNibbles_encBcd, digitsToNat_natToDigits, Nat.mod_eq_of_lt hn]
    rfl

end Sys2Proof.Machine
end

section
/-! The statement of 45_compare.md on the compares with a memory operand (45_compare.md R350 to R356, R363 to R366;
41_codecs.md R191, R192). -/

namespace Sys2Proof.Machine

variable {s : State}

/-! ## The value of a memory operand -/

theorem kFromF32_supported (w : BitVec 32) : (kFromF32 w).isUnsupported = false := by
  by_cases hc : (w.extractLsb' 23 8).toNat = 255
  · rw [kFromF32_special hc]
    split <;> simp [Fx80.isUnsupported, Fx80.j]
  · exact (kFromF32_number hc rfl).2.2.2

theorem kFromF64_supported (w : BitVec 64) : (kFromF64 w).isUnsupported = false := by
  by_cases hc : (w.extractLsb' 52 11).toNat = 2047
  · rw [kFromF64_special hc]
    split <;> simp [Fx80.isUnsupported, Fx80.j]
  · exact (kFromF64_number hc rfl).2.2.2

theorem IntWidth.bits_le (n : IntWidth) : n.bits ≤ 64 := by cases n <;> decide

/-- A converted operand is never in an unsupported encoding (40_kernel_and_protocol.md R153, R154). -/
theorem MemSrc.value_supported (f : MemSrc) (x : ℕ) : (f.value x).isUnsupported = false := by
  cases f with
  | f32 => exact kFromF32_supported _
  | f64 => exact kFromF64_supported _
  | int n => exact (encNat_finite _ (extInteger_of_lt (natAbs_toInt_lt n.bits_le _))).2

/-! ## The relation in the terms of the claims -/

/-- A NaN is unordered to everything (45_compare.md R352). -/
theorem relVal_nan {a b : Fx80} (h : a.isNan = true ∨ b.isNan = true) :
    relVal (unpackExt a) (unpackExt b) = .unordered := by
  obtain h | h := h
  · rw [unpackExt_nan h]
    rfl
  · rw [unpackExt_nan h]
    cases unpackExt a <;> rfl

theorem latchIf_IE_eq (c : Bool) (s : State) :
    latchIf c bitIE s = { s with sw := if c then invalidated s.sw else s.sw } := by
  cases c <;> rfl

/-- The relation of two supported operands, and the IE it latches, as the claim's term says them (R352). -/
theorem relOf_supported (kind : CmpKind) {a b : Fx80} (ha : a.isUnsupported = false) (hb : b.isUnsupported = false)
    (s : State) :
    relOf kind a b s = ((relOut kind a b s.sw).1, { s with sw := (relOut kind a b s.sw).2 }) := by
  rw [relOf, ha, hb, if_neg (by decide), latchIf_IE_eq, relOut]
  by_cases hnan : a.isNan = true ∨ b.isNan = true
  · have hinv : cmpInvalid kind a b = true ↔ kind = .ordered ∨ a.isSnan ∨ b.isSnan := by
      rw [cmpInvalid, Bool.or_eq_true_iff.mpr hnan]
      simp [or_assoc]
    rw [if_pos hnan, relVal_nan hnan]
    simp only [hinv]
  · have hinv : cmpInvalid kind a b = false := by
      rw [cmpInvalid, Bool.eq_false_iff.mpr (mt Bool.or_eq_true_iff.mp hnan), Bool.false_and]
    rw [if_neg hnan, hinv, if_neg Bool.false_ne_true]

/-! ## The commit of a compare to the condition codes -/

/-- The status word of a result, bit by bit (R350, R351). -/
theorem codesWord_getLsbD (r : Rel) (sw : Word) {k : ℕ} (hk : k < 16) : (codesWord r sw).getLsbD k =
    if k = 9 then false else if k = 8 then r.codes.c0 else if k = 10 then r.codes.c2
    else if k = 14 then r.codes.c3 else sw.getLsbD k := by
  have hbits : ∀ k < 16, ∀ b : Bool, (b && (0xB8FF#16).getLsbD k || (codesWord r 0#16).getLsbD k) =
      if k = 9 then false else if k = 8 then r.codes.c0 else if k = 10 then r.codes.c2
      else if k = 14 then r.codes.c3 else b := by
    cases r <;> decide
  have hsplit : codesWord r sw = (sw &&& 0xB8FF#16) ||| codesWord r 0#16 := by simp [codesWord]
  rw [hsplit, BitVec.getLsbD_or, BitVec.getLsbD_and]
  exact hbits k hk _

theorem writeRelCodes_eq (r : Rel) (s : State) : writeRelCodes r s = { s with sw := codesWord r s.sw } := by
  have hword : putBit (putCodes r.codes s.sw) bitC1 false = codesWord r s.sw := by
    refine word_ext fun k hk => ?_
    rw [codesWord_getLsbD r _ hk, putCodes]
    simp only [putBit_getLsbD, hk, and_true]
  rw [writeRelCodes, hword]

theorem topOf_codesWord (r : Rel) (sw : Word) : topOf (codesWord r sw) = topOf sw := by
  refine BitVec.eq_of_getLsbD_eq fun k hk => ?_
  rw [topOf_getLsbD, topOf_getLsbD, codesWord_getLsbD r sw (by omega), if_neg (by omega), if_neg (by omega),
    if_neg (by omega), if_neg (by omega)]

/-- What a stack underflow leaves as it is: a word with SF and IE set and C1 clear (40_kernel_and_protocol.md R158). -/
theorem underflowed_eq_self_iff (sw : Word) :
    underflowed sw = sw ↔ sw.getLsbD 0 = true ∧ sw.getLsbD 6 = true ∧ sw.getLsbD 9 = false := by
  constructor
  · intro h
    rw [← h]
    exact ⟨underflowed_IE sw, by simp [underflowed], by simp [underflowed]⟩
  · rintro ⟨h0, h6, h9⟩
    refine word_ext fun k hk => ?_
    by_cases k0 : k = 0
    · rw [k0, h0, underflowed_IE]
    by_cases k6 : k = 6
    · rw [k6, h6]
      simp [underflowed]
    by_cases k9 : k = 9
    · rw [k9, h9]
      simp [underflowed]
    exact underflowed_getLsbD sw hk k0 k6 k9

/-- The codes of a compare leave the mark of a stack underflow. -/
theorem underflowed_codesWord (r : Rel) {sw : Word} (h : underflowed sw = sw) :
    underflowed (codesWord r sw) = codesWord r sw := by
  obtain ⟨h0, h6, -⟩ := (underflowed_eq_self_iff sw).mp h
  rw [underflowed_eq_self_iff, codesWord_getLsbD r sw (by decide), codesWord_getLsbD r sw (by decide),
    codesWord_getLsbD r sw (by decide)]
  exact ⟨h0, h6, rfl⟩

/-- The pop of a compare: of an occupied top, or of an EMPTY one whose stack underflow, found by the checks, is
masked. -/
theorem popTimes_commit {n : ℕ} (hn : n ≤ 1) {sw : Word} (htop : topOf sw = s.top)
    (h : s.isEmpty 0 = true → s.cw.getLsbD 0 = true ∧ underflowed sw = sw) :
    popTimes n { s with sw := sw } = poppedTimes n sw s := by
  have hempty : ({ s with sw := sw } : State).isEmpty 0 = s.isEmpty 0 :=
    congrArg (fun t : Slot => tagOfSlot s.tw (t + 0) == tagEmpty) htop
  match n, hn with
  | 0, _ => rfl
  | 1, _ => exact popIf_commit true fun he => h (hempty ▸ he)

/-- A compare to the condition codes with at most one pop settles as its relation: the row of the truth table, then the
pop (R350, R351). An EMPTY top is one that the checks have found. -/
theorem settles_cmpCommit {i : Instr} {n : ℕ} {r : Rel × State} {o : Rel × Word}
    (he : exec i s = finish i (cmpCommit .codes n r)) (hfx : s.fx = KFlags.empty) (hn : n ≤ 1)
    (hc : Computed s r.2) (hr : Encodes s r o) (hempty : s.isEmpty 0 = true → ∃ sw, o.2 = underflowed sw) :
    settles i s o.2 fun u => poppedTimes n (codesWord o.1 u) s := by
  have htop := hr.state.topOf_eq hc hfx
  rw [cmpCommit, hr.image] at he
  refine settles_of_drains he hr.state hfx fun hp => ?_
  show popTimes n (writeRelCodes o.1 { s with sw := o.2 &&& 0xFF7F#16 }) = _
  rw [writeRelCodes_eq]
  refine popTimes_commit hn ((topOf_codesWord _ _).trans htop) fun h0 => ?_
  obtain ⟨sw, hsw⟩ := hempty h0
  rw [hsw] at hp ⊢
  exact ⟨masked_IE_of_underflowed hp, underflowed_codesWord _ (underflowed_clearES sw)⟩

/-! ## With a memory operand -/

/-- The relation that a compare finds of ST(0) to an image (R351). -/
def memRelation (f : MemSrc) (x : ℕ) (s : State) : Rel × State :=
  let t := latchIf (f.signals x) bitIE s
  let u := checkOperands [0] t
  if t.isEmpty 0 || f.signals x then (.unordered, u) else relOf .ordered (t.st 0) (f.value x) u

theorem cmpMem_readable (n : ℕ) {f : MemSrc} {m : MemOperand} (hm : s.readable m f.bytes) :
    cmpMem n f m s = cmpCommit .codes n (memRelation f (s.mem.readLE f.bytes m.ea) s) := by
  rw [cmpMem, memSource_readable _ _ _ _ hm, MemSrc.decode_eq, memRelation]
  cases hs : f.signals (s.mem.readLE f.bytes m.ea) <;> simp

theorem computed_memRelation (f : MemSrc) (x : ℕ) (s : State) : Computed s (memRelation f x s).2 :=
  (computed_latchIf_IE _ s).trans ((computed_checkOperands [0] _).trans (.ite (.refl _) (computed_relOf _ _ _ _)))

/-- The claim's term for the relation. -/
def memRelOut (f : MemSrc) (x : ℕ) (s : State) : Rel × Word :=
  let sw := if f.signals x then invalidated s.sw else s.sw
  if s.isEmpty 0 then (.unordered, underflowed sw) else if f.signals x then (.unordered, sw)
  else relOut .ordered (s.st 0) (f.value x) sw

theorem drains_sw (s : State) (sw : Word) : Drains s { s with sw := sw } sw := ⟨sw, s.fx, rfl, rfl⟩

/-- An EMPTY ST(0) and a signaling NaN in memory are unordered, a supported ST(0) compares by R352. -/
theorem encodes_memRelation (f : MemSrc) (x : ℕ) (h : s.isEmpty 0 = true ∨ (s.st 0).isUnsupported = false) :
    Encodes s (memRelation f x s) (memRelOut f x s) := by
  let t : State := { s with sw := if f.signals x then invalidated s.sw else s.sw }
  have ht : latchIf (f.signals x) bitIE s = t := latchIf_IE_eq _ s
  have hc : Computed s t := ht ▸ computed_latchIf_IE _ s
  have hst : t.st 0 = s.st 0 := congrArg (fun p : Slot => s.reg (p + 0)) hc.topOf_eq
  have hempty := hc.isEmpty_eq 0
  rw [memRelation, memRelOut, ht, hempty]
  cases he : s.isEmpty 0 with
  | true =>
    rw [checkOperands_absent ((anyEmpty_singleton 0 t).trans (hempty.trans he)), if_pos (Bool.true_or _), if_pos rfl]
    exact ⟨rfl, drains_setStackUnderflow t⟩
  | false =>
    have hsupp := h.resolve_left (Bool.eq_false_iff.mp he)
    rw [checkOperands_present ((anyEmpty_singleton 0 t).trans (hempty.trans he)), Bool.false_or,
      if_neg Bool.false_ne_true]
    refine .ite Iff.rfl ⟨rfl, drains_sw s t.sw⟩ ?_
    rw [hst, relOf_supported .ordered hsupp (f.value_supported x) t]
    exact ⟨rfl, drains_sw s _⟩

theorem exec_cmpMemRow {r : (MemOperand → Instr) × MemSrc × ℕ} (hr : r ∈ cmpMemRows) (m : MemOperand) (s : State) :
    exec (r.1 m) s = finish (r.1 m) (cmpMem r.2.2 r.2.1 m s) := by
  fin_cases hr <;> rfl

theorem pops_of_cmpMemRow {r : (MemOperand → Instr) × MemSrc × ℕ} (hr : r ∈ cmpMemRows) : r.2.2 ≤ 1 := by
  fin_cases hr <;> decide

/-- Settles O44: the relation by the class of the operands, then the commit of a compare. -/
theorem comparesWithMemory : Obligations.ComparesWithMemory := by
  intro r hr m s hfx hm hok x snan sw out
  have he := exec_cmpMemRow hr m s
  rw [cmpMem_readable _ hm] at he
  exact settles_cmpCommit he hfx (pops_of_cmpMemRow hr) (computed_memRelation _ _ s) (encodes_memRelation _ x hok)
    fun h0 => ⟨_, congrArg Prod.snd (if_pos h0)⟩

end Sys2Proof.Machine
end

section
/-! The statements of 42_load_store.md on `FLD ST(i)`, the constant loads and the stores (42_load_store.md R224, R230 to
R254; 41_codecs.md R194, R195, R198). -/

namespace Sys2Proof.Machine

variable {s u : State} {w : Word} {i : Instr} {m : MemOperand} {p : Bool}

/-! ## Loads of a register -/

theorem drains_checkOperands (is : List Slot) (s : State) :
    Drains s (checkOperands is s) (if s.anyEmpty is then underflowed s.sw else s.sw) := by
  rw [checkOperands]
  split
  · exact drains_setStackUnderflow s
  · exact drains_refl s

/-- Settles O31: the source check, then the load template on the register or on INDEF for an EMPTY one. -/
theorem fldStiDuplicates : Obligations.FldStiDuplicates := by
  intro i s hfx full v sw
  have hv : v = if full then indef else if s.isEmpty i then indef else s.st i := by
    cases hfull : full <;> simp [v, hfull]
  have hsw : sw = if s.anyEmpty [i] then underflowed s.sw else s.sw := by rw [anyEmpty_singleton]
  rw [hv, hsw]
  exact settles_load rfl hfx (computed_checkOperands [i] s) (drains_checkOperands [i] s)

/-! ## Constant loads -/

/-- The constant template settles as the push of the constant with its own tag, or of INDEF on a full stack (R230). -/
theorem settles_loadConst {c : Fx80} {tg : BitVec 2} (he : exec i s = finish i (loadConst c tg s))
    (hfx : s.fx = KFlags.empty) :
    settles i s (if !s.isEmpty 7 then overflowed s.sw else s.sw) fun sw =>
      if !s.isEmpty 7 then pushed indef tagSpecial sw s else pushed c tg sw s := by
  have hpush := (drains_refl s).pushCheck (.refl s)
  have htop := hpush.topOf_eq (computed_pushCheck s) hfx
  refine settles_of_drains he hpush hfx fun _ => ?_
  rw [pushCommit_commit htop, State.full]
  split <;> rfl

/-- The incremented variant is the one under nearest and up (R232). -/
theorem rcIncrements_iff (cw : Word) : rcIncrements cw = true ↔ rcOf cw = 0#2 ∨ rcOf cw = 2#2 := by
  simp [rcIncrements]

/-- For log2(10) the parameter decides under nearest (R232, R236). -/
theorem rcIncrementsL2t_iff (s : State) : rcIncrementsL2t s = true ↔
    rcOf s.cw = 2#2 ∨ (rcOf s.cw = 0#2 ∧ s.params.l2tNearestIncremented = true) := by
  by_cases h : rcOf s.cw = 0#2
  · simp [rcIncrementsL2t, h]
  · simp [rcIncrementsL2t, rcIncrements, h]

/-- A constant of the ROM in the variant that a condition selects (R231). -/
theorem romConst_value {b : Bool} {c : Prop} [Decidable c] (h : b = true ↔ c) (r : RomConst) :
    r.value b = ⟨r.high, if c then r.lower + 1 else r.lower⟩ := by
  simp only [RomConst.value, h]

theorem exec_constRow {r : Instr × Fx80 × BitVec 2}
    (hr : r ∈ constRows (rcOf s.cw) s.params.l2tNearestIncremented) :
    exec r.1 s = finish r.1 (loadConst r.2.1 r.2.2 s) := by
  have hrom (c : RomConst) := romConst_value (rcIncrements_iff s.cw) c
  have hl2t := romConst_value (rcIncrementsL2t_iff s) romL2t
  simp only [constRows, List.mem_cons, List.not_mem_nil, or_false] at hr
  obtain rfl | rfl | rfl | rfl | rfl | rfl | rfl := hr
  · rfl
  · rfl
  · exact congrArg (fun c => finish .fldpi (loadConst c tagValid s)) (hrom romPi)
  · exact congrArg (fun c => finish .fldl2t (loadConst c tagValid s)) hl2t
  · exact congrArg (fun c => finish .fldl2e (loadConst c tagValid s)) (hrom romL2e)
  · exact congrArg (fun c => finish .fldlg2 (loadConst c tagValid s)) (hrom romLg2)
  · exact congrArg (fun c => finish .fldln2 (loadConst c tagValid s)) (hrom romLn2)

/-- Settles O32: each row is the constant template on its constant. -/
theorem constantLoads : Obligations.ConstantLoads :=
  fun _ hfx _ hr => settles_loadConst (exec_constRow hr) hfx

/-! ## The commit of a store -/

/-- A funneled handler whose commit the host lets through settles as that commit says. -/
theorem settles_of_done {c : State → Ended} {commit : Word → State} (he : exec i s = finish i (funnel c u))
    (hd : Drains s u w) (hfx : s.fx = KFlags.empty)
    (hc : pendingOf s.cw w = 0#6 → c { s with sw := w &&& 0xFF7F#16 } = .done (commit (w &&& 0xFF7F#16))) :
    settles i s w commit := by
  have hdone : funnel c u = funnel (fun _ => .done (commit (w &&& 0xFF7F#16))) u := by
    rw [hd.funnel hfx, hd.funnel hfx]
    exact if_ctx_congr Iff.rfl hc fun _ => rfl
  exact settles_of_drains (he.trans (congrArg (finish i) hdone)) hd hfx fun _ => rfl

/-- A slot is EMPTY under another status word with the same TOP as before. -/
theorem isEmpty_sw {sw : Word} (h : topOf sw = s.top) (k : Slot) :
    ({ s with sw := sw } : State).isEmpty k = s.isEmpty k := by
  have htop : ({ s with sw := sw } : State).top = s.top := h
  simp only [State.isEmpty, State.tag, State.phys, htop]

/-- A pop replaces the status word, of which it reads TOP alone. -/
theorem poppedIf_sw (p : Bool) {sw : Word} (h : topOf sw = s.top) :
    poppedIf p sw { s with sw := sw } = poppedIf p sw s := by
  have htop : ({ s with sw := sw } : State).top = s.top := h
  simp only [poppedIf, htop]

/-- The pop where a commit starts: an EMPTY top is one whose stack underflow the checks have found, and which is
masked. -/
theorem popIf_start (p : Bool) (htop : topOf (w &&& 0xFF7F#16) = s.top) (hp : pendingOf s.cw w = 0#6)
    (hempty : s.isEmpty 0 = true → ∃ sw, w = underflowed sw) :
    popIf p { s with sw := w &&& 0xFF7F#16 } = poppedIf p (w &&& 0xFF7F#16) s := by
  rw [← poppedIf_sw p htop]
  refine popIf_commit p fun h0 => ?_
  obtain ⟨sw, rfl⟩ := hempty ((isEmpty_sw htop 0).symm.trans h0)
  exact ⟨masked_IE_of_underflowed hp, underflowed_clearES sw⟩

/-- A store to memory settles as its write and its pop, once the host lets the write through
(40_kernel_and_protocol.md R170, R172). -/
theorem settles_memStore {c : Addr → State → Ended} {mem : Memory}
    (he : exec i s = finish i (memDest m s fun ea => funnel (c ea) u)) (hea : s.guarded (.getEa true) m.ea 1 = false)
    (hwrite : ∀ sw, c m.ea { s with sw := sw } = .done (popIf p { s with sw := sw, mem := mem }))
    (hfx : s.fx = KFlags.empty) (hc : Computed s u) (hd : Drains s u w)
    (hempty : s.isEmpty 0 = true → ∃ sw, w = underflowed sw) :
    settles i s w fun sw => poppedIf p sw { s with mem := mem } := by
  rw [memDest_open _ _ _ hea] at he
  have htop := hd.topOf_eq hc hfx
  refine settles_of_done he hd hfx fun hp => ?_
  exact (hwrite _).trans (congrArg Ended.done (popIf_start (s := { s with mem := mem }) p htop hp hempty))

/-- The commit of a store that the host lets through. -/
theorem storeCommit_open {n : Nat} {ea : Addr} (h : s.guarded .write ea n = false) (img : Nat) (p : Bool) (sw : Word) :
    storeCommit n ea img p { s with sw := sw } =
      .done (popIf p { s with sw := sw, mem := s.mem.writeLE n ea img }) := by
  have hg : ({ s with sw := sw } : State).guarded .write ea n = false := h
  rw [storeCommit, hostWrite_spec, hg, if_neg Bool.false_ne_true, andThen_done]

theorem storeCommit80_open {ea : Addr} (h : s.guarded .write ea 8 = false) (h' : s.guarded .write (ea + 8) 2 = false)
    (img : Fx80) (p : Bool) (sw : Word) :
    storeCommit80 ea img p { s with sw := sw } =
      .done (popIf p { s with sw := sw, mem := s.mem.write80 ea img }) := by
  rw [storeCommit80, hostWrite80_open ea img { s with sw := sw } h h', andThen_done]

/-- A store of `n` bytes from ST(0) settles as the claim's term says of its image (42_load_store.md R240, R248). -/
theorem settles_store {n k : Nat} {r : BitVec k × State} {o : BitVec k × Word}
    (he : exec i s = finish i (memDest m s fun ea => funnel (storeCommit n ea r.1.toNat p) r.2))
    (hm : s.writable m n) (hfx : s.fx = KFlags.empty) (hc : Computed s r.2) (hr : Encodes s r o)
    (hempty : s.isEmpty 0 = true → ∃ sw, o.2 = underflowed sw) :
    settles i s o.2 fun sw => poppedIf p sw { s with mem := s.mem.writeLE n m.ea o.1.toNat } := by
  obtain ⟨hea, hwr⟩ := hm
  rw [hr.image] at he
  exact settles_memStore he hea (storeCommit_open hwr _ p) hfx hc hr.state hempty

/-- An 80-bit store from ST(0), which always pops (R245, R254). -/
theorem settles_store80 {r : Fx80 × State} {o : Fx80 × Word}
    (he : exec i s = finish i (memDest m s fun ea => funnel (storeCommit80 ea r.1 true) r.2))
    (hm : s.writable80 m) (hfx : s.fx = KFlags.empty) (hc : Computed s r.2) (hr : Encodes s r o)
    (hempty : s.isEmpty 0 = true → ∃ sw, o.2 = underflowed sw) :
    settles i s o.2 fun sw => poppedIf true sw { s with mem := s.mem.write80 m.ea o.1 } := by
  obtain ⟨hea, hlow, hhigh⟩ := hm
  rw [hr.image] at he
  exact settles_memStore he hea (storeCommit80_open hlow hhigh _ true) hfx hc hr.state hempty

/-! ## Stores to memory -/

/-- Settles O33: each format's encoder, then the commit of its store. -/
theorem realStoresWriteRoundedImage : Obligations.RealStoresWriteRoundedImage := by
  intro m s hfx hok
  constructor
  · intro hm r hr
    have he : exec r.1 s = finish r.1 (storeReal32 r.2 m s) := by fin_cases hr <;> rfl
    exact settles_store he hm hfx (computed_storeImage _ _ computed_encF32 s) (encodes_real32 hok)
      fun h0 => ⟨_, congrArg Prod.snd (if_pos h0)⟩
  · intro hm r hr
    have he : exec r.1 s = finish r.1 (storeReal64 r.2 m s) := by fin_cases hr <;> rfl
    exact settles_store he hm hfx (computed_storeImage _ _ computed_encF64 s) (encodes_real64 hok)
      fun h0 => ⟨_, congrArg Prod.snd (if_pos h0)⟩

theorem exec_intStoreRow {r : (MemOperand → Instr) × IntWidth × Bool} (hr : r ∈ intStoreRows) (m : MemOperand)
    (s : State) : exec (r.1 m) s = finish (r.1 m) (storeInt r.2.1 r.2.2 m s) := by
  fin_cases hr <;> rfl

/-- Settles O35: the integer encoder of each width, and the packed-BCD one, then the commit of the store. -/
theorem integerStoresWriteImage : Obligations.IntegerStoresWriteImage := by
  intro m s hfx hok
  constructor
  · intro r hr hm
    exact settles_store (exec_intStoreRow hr m s) hm hfx (computed_intImage _ s) (encodes_int _ hok)
      fun h0 => ⟨_, congrArg Prod.snd (if_pos h0)⟩
  · intro hm
    exact settles_store80 rfl hm hfx (computed_storeImage _ _ computed_bcdImage s) (encodes_bcd hok)
      fun h0 => ⟨_, congrArg Prod.snd (if_pos h0)⟩

/-! ## Verbatim stores -/

/-- What a verbatim store copies, and SW after its check (R245 to R247). -/
def copyOut (s : State) : Fx80 × Word := if s.isEmpty 0 then (indef, underflowed s.sw) else (s.st 0, s.sw)

theorem copyOut_eq (s : State) :
    copyOut s = (if s.isEmpty 0 then indef else s.st 0, if s.isEmpty 0 then underflowed s.sw else s.sw) := by
  rw [copyOut]
  split <;> rfl

theorem copyOut_empty (h : s.isEmpty 0 = true) : ∃ sw, (copyOut s).2 = underflowed sw :=
  ⟨s.sw, congrArg Prod.snd (if_pos h)⟩

theorem computed_copy (s : State) : Computed s (storeImage indef (fun v t => (v, t)) s).2 :=
  computed_storeImage _ _ (fun _ t => .refl t) s

theorem encodes_copy (s : State) : Encodes s (storeImage indef (fun v t => (v, t)) s) (copyOut s) := encodes_real80 s

/-- A store to a register settles as its write, the destination's tag unexamined, and its pop (R246, R247). -/
theorem settles_storeSt {j : Slot} (he : exec i s = finish i (storeSt j p s)) (hfx : s.fx = KFlags.empty) :
    settles i s (copyOut s).2 fun sw => poppedIf p sw (written j (copyOut s).1 sw s) := by
  obtain ⟨himage, hd⟩ := encodes_copy s
  have htop := hd.topOf_eq (computed_copy s) hfx
  rw [storeSt, himage] at he
  refine settles_of_drains he hd hfx fun hp => ?_
  have hw := writeStack_commit (x := (copyOut s).1) (i := j) htop
  refine (congrArg (popIf p) hw).trans (popIf_start (s := written j _ _ s) p rfl hp fun h0 => copyOut_empty ?_)
  exact (isEmpty_sw htop 0).symm.trans (isEmpty_of_writeStack (hw ▸ h0))

/-- Settles O34: the copy of ST(0) to memory and to a register, with the pop of each popping form. -/
theorem verbatimStores : Obligations.VerbatimStores := by
  intro m j s hfx v sw
  have hcopy : copyOut s = (v, sw) := copyOut_eq s
  have hreg (i : Instr) (p : Bool) (he : exec i s = finish i (storeSt j p s)) :
      settles i s sw fun u => poppedIf p u (written j v u s) := by
    have h := settles_storeSt he hfx
    rwa [hcopy] at h
  refine ⟨fun hm => ?_, hreg (.fstSti j) false rfl, hreg (.fstpSti j) true rfl⟩
  have h : settles (.fstpM80real m) s (copyOut s).2 fun u =>
      poppedIf true u { s with mem := s.mem.write80 m.ea (copyOut s).1 } :=
    settles_store80 rfl hm hfx (computed_copy s) (encodes_copy s) copyOut_empty
  rwa [hcopy] at h

end Sys2Proof.Machine
end

section
/-! The statement of 43_arithmetic.md on the rows with a memory operand (43_arithmetic.md R270 to R298; 41_codecs.md R191,
R192; 40_kernel_and_protocol.md R156). -/

namespace Sys2Proof.Machine

variable {s : State}

/-- The result of the template on ST(0) and an image in memory (R270, R271). -/
def memResult (k : ArithKind) (f : MemSrc) (x : ℕ) (s : State) : Fx80 × State :=
  let t := latchIf (f.signals x) bitIE s
  let u := checkOperands [0] t
  if t.isEmpty 0 || f.signals x then (indef, u) else arithResult k (t.st 0) (f.value x) u

theorem arithMem_readable (k : ArithKind) {f : MemSrc} {m : MemOperand} (hm : s.readable m f.bytes) :
    let r := memResult k f (s.mem.readLE f.bytes m.ea) s
    arithMem k f m s = funnel (fun v => .done (writeStack 0 r.1 v)) r.2 := by
  rw [arithMem, memSource_readable _ _ _ _ hm, MemSrc.decode_eq]
  cases hs : f.signals (s.mem.readLE f.bytes m.ea) <;> simp [memResult, hs]

theorem computed_memResult (k : ArithKind) (f : MemSrc) (x : ℕ) (s : State) : Computed s (memResult k f x s).2 :=
  (computed_latchIf_IE _ s).trans
    ((computed_checkOperands [0] _).trans (.ite (.refl _) (computed_arithResult _ _ _ _)))

/-- The claim's term for the result. -/
def memResultOut (k : ArithKind) (f : MemSrc) (x : ℕ) (s : State) : Fx80 × Word :=
  let sw := if f.signals x then invalidated s.sw else s.sw
  if s.isEmpty 0 then (indef, underflowed sw) else if f.signals x then (indef, sw)
  else arithOut k (s.st 0) (f.value x) s sw

/-- A stack underflow found after the decoder of the operand (40_kernel_and_protocol.md R158, R170). -/
theorem drains_latchIf_setStackUnderflow (b : Bool) (s : State) :
    Drains s (setStackUnderflow (latchIf b bitIE s)) (underflowed (if b then invalidated s.sw else s.sw)) := by
  cases b
  · exact drains_setStackUnderflow s
  · exact drains_setStackUnderflow (latch bitIE s)

/-- An EMPTY ST(0) and a signaling NaN in memory give INDEF, a supported ST(0) the result of its pair (R271, R274). -/
theorem encodes_memResult (k : ArithKind) (f : MemSrc) (x : ℕ)
    (h : s.isEmpty 0 = true ∨ ((s.st 0).isUnsupported = false ∧ pcOf s.cw ≠ 1#2)) :
    Encodes s (memResult k f x s) (memResultOut k f x s) := by
  have hempty := (computed_latchIf_IE (f.signals x) s).isEmpty_eq 0
  have hany := (anyEmpty_singleton 0 _).trans hempty
  rw [memResult, memResultOut, hempty]
  cases he : s.isEmpty 0 with
  | true =>
    rw [checkOperands_absent (hany.trans he), Bool.true_or, if_pos rfl, if_pos rfl]
    exact ⟨rfl, drains_latchIf_setStackUnderflow _ s⟩
  | false =>
    rw [checkOperands_present (hany.trans he), Bool.false_or, if_neg Bool.false_ne_true]
    cases f.signals x with
    | true => exact ⟨rfl, drains_latch_IE s⟩
    | false =>
      obtain ⟨hsupp, hpc⟩ := h.resolve_left (Bool.eq_false_iff.mp he)
      exact encodes_arithResult hsupp (f.value_supported x) hpc

/-- Settles O36: the result drains as the claim says, and the commit writes ST(0). -/
theorem arithmeticWithMemory : Obligations.ArithmeticWithMemory := by
  intro r hr m s hfx hm hok x snan sw out
  have henc := encodes_memResult r.2.1 r.2.2 x hok
  have he := exec_arithMem hr m s
  rw [arithMem_readable _ hm, henc.image] at he
  exact settles_of_drains he henc.state hfx fun _ =>
    writeStack_commit (henc.state.topOf_eq (computed_memResult _ _ _ s) hfx)

end Sys2Proof.Machine
end

section
/-! SUPPORT. The templates of 44_misc_arith.md: the checks of one or two operands and a result written to ST(0)
(R330, R335 to R338). -/

namespace Sys2Proof.Machine

variable {s : State}

/-- A result written to ST(0) settles as its computation encodes it (R330). -/
theorem settles_writeTop {i : Instr} {r : Fx80 × State} {o : Fx80 × Word}
    (he : exec i s = finish i (funnel (fun u => .done (writeStack 0 r.1 u)) r.2)) (hfx : s.fx = KFlags.empty)
    (hc : Computed s r.2) (hr : Encodes s r o) : settles i s o.2 fun u => written 0 o.1 u s := by
  rw [hr.image] at he
  exact settles_of_drains he hr.state hfx fun _ => writeStack_commit (hr.state.topOf_eq hc hfx)

/-- The result of the template on ST(0) and ST(1), with what stands for it when one is absent (R330). -/
def binaryResult {α : Type} (absent : α) (f : Fx80 → Fx80 → State → α × State) (s : State) : α × State :=
  if s.anyEmpty [0, 1] then (absent, checkOperands [0, 1] s) else f (s.st 0) (s.st 1) (checkOperands [0, 1] s)

theorem anyEmpty_pair (i j : Slot) (s : State) : s.anyEmpty [i, j] = (s.isEmpty i || s.isEmpty j) := by
  simp [State.anyEmpty]

theorem computed_binaryResult {α : Type} {absent : α} {f : Fx80 → Fx80 → State → α × State}
    (hf : ∀ a b t, Computed t (f a b t).2) (s : State) : Computed s (binaryResult absent f s).2 :=
  (computed_checkOperands [0, 1] s).trans (.ite (.refl _) (hf _ _ _))

theorem binaryResult_present {α : Type} {absent : α} {f : Fx80 → Fx80 → State → α × State}
    (h : s.anyEmpty [0, 1] = false) : binaryResult absent f s = f (s.st 0) (s.st 1) s := by
  rw [binaryResult, checkOperands_present h, h, if_neg Bool.false_ne_true]

/-- Both operands present, a binary template encodes what its function gives (R330). -/
theorem encodes_binaryResult {α : Type} {absent : α} {f : Fx80 → Fx80 → State → α × State} {o : α × Word}
    (h : s.anyEmpty [0, 1] = false → Encodes s (f (s.st 0) (s.st 1) s) o) :
    Encodes s (binaryResult absent f s) (if s.isEmpty 0 || s.isEmpty 1 then (absent, underflowed s.sw) else o) := by
  rw [← anyEmpty_pair]
  cases he : s.anyEmpty [0, 1] with
  | true =>
    rw [binaryResult, checkOperands_absent he, he, if_pos rfl, if_pos rfl]
    exact ⟨rfl, drains_setStackUnderflow s⟩
  | false =>
    rw [binaryResult_present he, if_neg Bool.false_ne_true]
    exact h he

/-- The operands of a binary template are supported where they are present. -/
theorem supported_of_present {a b : Fx80}
    (h : (s.isEmpty 0 || s.isEmpty 1) = true ∨ (a.isUnsupported = false ∧ b.isUnsupported = false))
    (he : s.anyEmpty [0, 1] = false) : (a.isUnsupported || b.isUnsupported) = false := by
  rw [anyEmpty_pair] at he
  rw [Bool.or_eq_false_iff]
  exact h.resolve_left (Bool.eq_false_iff.mp he)

end Sys2Proof.Machine
end

section
/-! The statement of 44_misc_arith.md on `FCHS`, `FABS`, `FSQRT` and `FRNDINT` (R330 to R334). -/

namespace Sys2Proof.Machine

variable {s : State}

/-- The mask of the sign bit. -/
theorem signMask_getLsbD : ∀ k < 16, (0x8000#16).getLsbD k = decide (k = 15) := by decide

/-- The sign bit of an encoding replaced. -/
theorem withSign_high (v : Fx80) (b : Bool) : (v.withSign b).high = putBit v.high 15 b := by cases b <;> rfl

/-- `FCHS` inverts the sign bit, of every encoding (R331). -/
theorem neg_eq_xor (v : Fx80) : v.neg = ⟨v.high ^^^ 0x8000#16, v.low⟩ := by
  have hhigh : v.neg.high = v.high ^^^ 0x8000#16 := by
    refine word_ext fun k hk => ?_
    rw [Fx80.neg, withSign_high, putBit_getLsbD, BitVec.getLsbD_xor, signMask_getLsbD k hk]
    by_cases h : k = 15
    · rw [if_pos ⟨h, hk⟩, decide_eq_true h, Bool.xor_true, h]
      rfl
    · rw [if_neg fun h' => h h'.1, decide_eq_false h, Bool.xor_false]
  rw [← hhigh]
  rfl

/-- A unary instruction settles as the result of a present ST(0), or as INDEF for an EMPTY one (R330). -/
theorem settles_unary {i : Instr} {f : Fx80 → State → Fx80 × State} {o : Fx80 × Word}
    (he : exec i s = finish i (unary f s)) (hfx : s.fx = KFlags.empty) (hf : ∀ a t, Computed t (f a t).2)
    (hr : s.isEmpty 0 = false → Encodes s (f (s.st 0) s) o) :
    let out := if s.isEmpty 0 then (indef, underflowed s.sw) else o
    settles i s out.2 fun u => written 0 out.1 u s := by
  have hunary : unary f s = funnel (fun u => .done (writeStack 0 (storeImage indef f s).1 u)) (storeImage indef f s).2 :=
    rfl
  exact settles_writeTop (he.trans (congrArg _ hunary)) hfx (computed_storeImage indef f hf s) (encodes_storeImage hr)

/-- An instruction that changes ST(0) without an exception of its own raises at most a stack underflow (R331, R332). -/
theorem settles_mapTop {i : Instr} (g : Fx80 → Fx80) (he : exec i s = finish i (unary (fun a t => (g a, t)) s))
    (hfx : s.fx = KFlags.empty) :
    settles i s (if s.isEmpty 0 then underflowed s.sw else s.sw) fun u =>
      written 0 (if s.isEmpty 0 then indef else g (s.st 0)) u s := by
  have h := settles_unary (o := (g (s.st 0), s.sw)) he hfx (fun _ t => .refl t) fun _ => ⟨rfl, drains_refl s⟩
  dsimp only at h
  rwa [apply_ite Prod.fst, apply_ite Prod.snd] at h

/-- `FSQRT` of a supported operand: the three screens, then the kernel (R333). -/
theorem encodes_sqrtOf {a : Fx80} (h : a.isUnsupported = false) (s : State) :
    Encodes s (sqrtOf a s)
      (if a.isSnan ∨ (a.sign = true ∧ a.isZero = false) ∨ a.isDenormal then (indef, invalidated s.sw)
        else (packExt (kSqrt s.kmode (unpackExt a)).1, s.sw ||| latchMask (kSqrt s.kmode (unpackExt a)).2)) := by
  have hinv : Encodes s (invalidNow s) (indef, invalidated s.sw) := ⟨rfl, drains_latch_IE s⟩
  rw [sqrtOf, if_supported h, ite_or, ite_or]
  exact .ite Iff.rfl hinv (.ite (by simp) hinv (.ite Iff.rfl hinv ⟨rfl, drains_addFx _ s⟩))

/-- `FRNDINT` of a supported operand (R334). -/
theorem encodes_rndintOf {a : Fx80} (h : a.isUnsupported = false) (s : State) :
    Encodes s (rndintOf a s) (if a.isSnan then (indef, invalidated s.sw)
      else ((kRint s.rm a).1, s.sw ||| latchMask (kRint s.rm a).2)) := by
  rw [rndintOf, if_supported h]
  exact .ite Iff.rfl ⟨rfl, drains_latch_IE s⟩ ⟨rfl, drains_addFx _ s⟩

/-- Settles O39: a change of sign by its bit, the square root and the rounding by their screens and the kernel. -/
theorem unaryResults : Obligations.UnaryResults := by
  intro s hfx a e sw neg abs
  have hneg : neg = if s.isEmpty 0 then indef else (s.st 0).neg := by rw [neg_eq_xor]
  have hsw (o : Fx80 × Word) : (if e then (indef, sw) else o) = if s.isEmpty 0 then (indef, underflowed s.sw) else o :=
    if_ctx_congr Iff.rfl (fun he => by rw [show sw = _ from if_pos he]) fun _ => rfl
  refine ⟨?_, settles_mapTop (fun v => v.withSign false) rfl hfx, ?_⟩
  · rw [hneg]
    exact settles_mapTop Fx80.neg rfl hfx
  · intro hok
    rw [hsw, hsw]
    have hsupp (he : s.isEmpty 0 = false) : a.isUnsupported = false := hok.resolve_left (Bool.eq_false_iff.mp he)
    exact ⟨settles_unary rfl hfx computed_sqrtOf fun he => encodes_sqrtOf (hsupp he) s,
      settles_unary rfl hfx computed_rndintOf fun he => encodes_rndintOf (hsupp he) s⟩

end Sys2Proof.Machine
end

section
/-! The statement of 44_misc_arith.md on `FXTRACT` (R336). -/

namespace Sys2Proof.Machine

variable {s u : State} {w : Word}

/-- The write in place and the push (R336). -/
theorem pair_commit {sw : Word} (h : topOf sw = s.top) (a b : Fx80) :
    pushCommit b (tagOf b) (writeStack 0 a { s with sw := sw }) = pushed b (tagOf b) sw (written 0 a sw s) := by
  rw [writeStack_commit h, pushCommit_spec]
  rfl

/-- An instruction with two results settles by its results and its push check, the last to be made (R336;
notes/assumptions/12.md). -/
theorem settles_pairTop {i : Instr} {f : Fx80 → State → PairResult} {a b : Fx80}
    (he : exec i s = finish i (pairTop id f s)) (hfx : s.fx = KFlags.empty)
    (hf : ∀ a t, Computed t (f a t).state) (hr : Pairs s (pairResult f s) a b w) :
    settles i s (if !s.isEmpty 7 then overflowed w else w) fun sw =>
      pushed (if !s.isEmpty 7 then indef else b) (tagOf (if !s.isEmpty 7 then indef else b)) sw
        (written 0 (if !s.isEmpty 7 then indef else a) sw s) := by
  obtain ⟨ha, hb, hd⟩ := hr
  have hcomp := computed_pairResult hf s
  have hfull : (pairResult f s).state.full = !s.isEmpty 7 := by rw [State.full, hcomp.isEmpty_eq]
  have hpair : pairTop id f s = pairCommit id (pairResult f s) := rfl
  have hpush := hd.pushCheck hcomp
  rw [hpair, pairCommit, hfull, ha, hb] at he
  exact settles_of_drains he hpush hfx fun _ =>
    pair_commit (hpush.topOf_eq (hcomp.trans (computed_pushCheck _)) hfx) _ _

/-- A choice between two pairs of results, by one condition. -/
theorem Pairs.ite {c d : Prop} [Decidable c] [Decidable d] {r r' : PairResult} {o o' : (Fx80 × Fx80) × Word}
    (hcd : c ↔ d) (h : Pairs s r o.1.1 o.1.2 o.2) (h' : Pairs s r' o'.1.1 o'.1.2 o'.2) :
    Pairs s (if c then r else r') (if d then o else o').1.1 (if d then o else o').1.2 (if d then o else o').2 := by
  by_cases hc : c
  · rwa [if_pos hc, if_pos (hcd.mp hc)]
  · rwa [if_neg hc, if_neg (mt hcd.mpr hc)]

/-- The exponent, the significand and SW of a supported operand, as the claim's term says them (R336). -/
def extractOut (a : Fx80) (sw : Word) : (Fx80 × Fx80) × Word :=
  if a.isSnan then ((indef, indef), invalidated sw)
  else if a.isNan then ((a, a), sw)
  else if a.isInf then ((pinf, a), sw)
  else if a.isZero then ((ninf, pzero), sw ||| 0x0004#16)
  else ((kFromInt ((a.exp.toNat : Int) - 16383), ⟨(a.high &&& 0x8000#16) ||| 0x3FFF#16, a.low⟩), sw)

theorem pairs_extractOf {a : Fx80} (h : a.isUnsupported = false) (s : State) :
    Pairs s (extractOf a s) (extractOut a s.sw).1.1 (extractOut a s.sw).1.2 (extractOut a s.sw).2 := by
  have hzero : Drains s (latch bitZE s) (s.sw ||| 0x0004#16) := ⟨_, _, rfl, rfl⟩
  rw [extractOf, if_supported h]
  exact .ite Iff.rfl ⟨rfl, rfl, drains_latch_IE s⟩ (.ite Iff.rfl ⟨rfl, rfl, drains_refl s⟩
    (.ite Iff.rfl ⟨rfl, rfl, drains_refl s⟩ (.ite Iff.rfl ⟨rfl, rfl, hzero⟩ ⟨rfl, rfl, drains_refl s⟩)))

/-- Settles O41: the two results by the class of the operand, then the push check and the commit of two results. -/
theorem extractResult : Obligations.ExtractResult := by
  intro s hfx a e full hok out p
  have hpairs : Pairs s (pairResult extractOf s) out.1.1 out.1.2 out.2 := by
    cases he : s.isEmpty 0 with
    | true =>
      have hout : out = ((indef, indef), underflowed s.sw) := if_pos he
      rw [hout]
      exact pairs_absent he
    | false =>
      have hout : out = extractOut a s.sw := if_neg (Bool.eq_false_iff.mp he)
      rw [hout, pairResult_present he]
      exact pairs_extractOf (hok.resolve_left (Bool.eq_false_iff.mp he)) s
  have hfst : p.1 = if full then indef else out.1.1 := apply_ite Prod.fst _ _ _
  have hsnd : p.2 = if full then indef else out.1.2 := apply_ite Prod.snd _ _ _
  rw [hfst, hsnd]
  exact settles_pairTop rfl hfx computed_extractOf hpairs

end Sys2Proof.Machine
end

section
/-! The statements of 44_misc_arith.md on the results of `FPREM` and `FPREM1` (R337, R338). -/

namespace Sys2Proof.Machine

variable {s : State}

/-! ## The quotient codes -/

/-- The condition codes after `FPREM`, in masks (R337). -/
def remCodesWord (c : RemCodes) (u : Word) : Word :=
  match c with
  | .complete q => (u &&& 0xB8FF#16) ||| (if q.testBit 0 then 0x0200#16 else 0#16) |||
      (if q.testBit 1 then 0x4000#16 else 0#16) ||| (if q.testBit 2 then 0x0100#16 else 0#16)
  | .incomplete => u ||| 0x0400#16
  | .none => u
  | .free _ => u

theorem putQuotient_eq (q : ℕ) (u : Word) : putQuotient q u = remCodesWord (.complete q) u := by
  have hbits : ∀ k < 16, ∀ b x y z : Bool,
      (if k = 10 then false else if k = 8 then z else if k = 14 then y else if k = 9 then x else b) =
        (b && (0xB8FF#16).getLsbD k || (if x then 0x0200#16 else 0#16).getLsbD k ||
          (if y then 0x4000#16 else 0#16).getLsbD k || (if z then 0x0100#16 else 0#16).getLsbD k) := by
    decide
  refine word_ext fun k hk => ?_
  simp only [putQuotient, remCodesWord, putBit_getLsbD, hk, and_true, BitVec.getLsbD_or, BitVec.getLsbD_and]
  exact hbits k hk _ _ _ _

/-- The codes of a supported `FPREM`, written after the result (R337). -/
theorem writeRemCodes_written {c : RemCodes} (hc : ∀ x, c ≠ .free x) (v : Fx80) (sw : Word) :
    writeRemCodes c (written 0 v sw s) = written 0 v (remCodesWord c sw) s := by
  cases c with
  | none => rfl
  | incomplete => rfl
  | complete q =>
    rw [← putQuotient_eq]
    rfl
  | free x => exact absurd rfl (hc x)

/-! ## FPREM -/

/-- The result of `FPREM` with its codes, and SW with the latches, of supported operands, as the claim's term says them
(R337). -/
def premOut (a b : Fx80) (s : State) : (Fx80 × RemCodes) × Word :=
  if a.isSnan ∨ b.isSnan then ((indef, .none), invalidated s.sw)
  else if a.isNan ∨ b.isNan then
    ((packExt (selectNan .ext s.params.nanSelect (unpackExt a) (unpackExt b)), .none), s.sw)
  else if a.isInf ∨ b.isZero then ((indef, .none), invalidated s.sw)
  else if b.isInf ∨ a.isZero then ((a, .complete 0), s.sw)
  else ((premOf a b s).1, s.sw)

/-- The truncating remainder of two numbers with its codes, as FPREM leaves them (R337). -/
def premNumbers (a b : Fx80) : Fx80 × RemCodes :=
  match unpackExt a, unpackExt b with
  | .fin sg m e, .fin _ n g => premFinite sg m e n g
  | _, _ => (a, .complete 0)

/-- `FPREM` of supported operands, line by line (R337). -/
theorem premOf_supported {a b : Fx80} (hu : (a.isUnsupported || b.isUnsupported) = false) (s : State) :
    premOf a b s = if a.isSnan = true ∨ b.isSnan = true then ((indef, .none), latch bitIE s)
      else if a.isNan = true ∨ b.isNan = true then ((nanOf a b s, .none), s)
      else if a.isInf = true ∨ b.isZero = true then ((indef, .none), latch bitIE s)
      else if b.isInf = true ∨ a.isZero = true then ((a, .complete 0), s)
      else (premNumbers a b, s) := by
  rw [premOf, hu, if_neg Bool.false_ne_true, premNumbers]
  simp only [Bool.or_eq_true]
  generalize unpackExt a = va
  generalize unpackExt b = vb
  cases va <;> cases vb <;> rfl

theorem premNumbers_codes (a b : Fx80) (x : BitVec 4) : (premNumbers a b).2 ≠ .free x := by
  rw [premNumbers]
  split
  · unfold premFinite
    dsimp only
    split <;> exact nofun
  · exact nofun

/-- Supported operands give the result of the first line of R337 that matches, and its codes are none of the open
ones. -/
theorem encodes_premOf {a b : Fx80} (hu : (a.isUnsupported || b.isUnsupported) = false) (s : State) :
    Encodes s (premOf a b s) (premOut a b s) ∧ ∀ x, (premOut a b s).1.2 ≠ .free x := by
  have hspec := premOf_supported hu s
  unfold premOut
  split_ifs with hs hn hi hz
  · rw [hspec, if_pos hs]
    exact ⟨⟨rfl, drains_latch_IE s⟩, nofun⟩
  · rw [hspec, if_neg hs, if_pos hn]
    exact ⟨⟨rfl, drains_refl s⟩, nofun⟩
  · rw [hspec, if_neg hs, if_neg hn, if_pos hi]
    exact ⟨⟨rfl, drains_latch_IE s⟩, nofun⟩
  · rw [hspec, if_neg hs, if_neg hn, if_neg hi, if_pos hz]
    exact ⟨⟨rfl, drains_refl s⟩, nofun⟩
  · rw [hspec, if_neg hs, if_neg hn, if_neg hi, if_neg hz]
    exact ⟨⟨rfl, drains_refl s⟩, premNumbers_codes a b⟩

/-- `FPREM` settles as its result and its codes, which are none of the open ones (R337). -/
theorem settles_prem {o : (Fx80 × RemCodes) × Word} (hfx : s.fx = KFlags.empty)
    (hr : Encodes s (binaryResult (indef, .none) premOf s) o) (ho : ∀ x, o.1.2 ≠ .free x) :
    settles .fprem s o.2 fun u => written 0 o.1.1 (remCodesWord o.1.2 u) s := by
  have he : exec .fprem s = finish .fprem (funnel (fun u => .done (writeRemCodes
      (binaryResult (indef, .none) premOf s).1.2 (writeStack 0 (binaryResult (indef, .none) premOf s).1.1 u)))
      (binaryResult (indef, .none) premOf s).2) := rfl
  have htop := hr.state.topOf_eq (computed_binaryResult computed_premOf s) hfx
  rw [hr.image] at he
  exact settles_of_drains he hr.state hfx fun _ => by rw [writeStack_commit htop, writeRemCodes_written ho]

/-- Settles O42: the result and its codes by the class of the operands. -/
theorem premResult : Obligations.PremResult := by
  intro s hfx a b e hok codes out
  have hcodes : codes = remCodesWord := by
    funext c u
    cases c <;> rfl
  have hboth : Encodes s (binaryResult (indef, .none) premOf s) out ∧ ∀ x, out.1.2 ≠ .free x := by
    refine ⟨encodes_binaryResult fun he => (encodes_premOf (supported_of_present hok he) s).1, ?_⟩
    cases he : s.isEmpty 0 || s.isEmpty 1 with
    | true =>
      have hout : out = ((indef, .none), underflowed s.sw) := if_pos he
      rw [hout]
      exact nofun
    | false =>
      have hout : out = premOut a b s := if_neg (Bool.eq_false_iff.mp he)
      rw [hout]
      exact (encodes_premOf (supported_of_present hok ((anyEmpty_pair 0 1 s).trans he)) s).2
  rw [hcodes]
  exact settles_prem hfx hboth.1 hboth.2

/-! ## FPREM1 -/

/-- `FPREM1` of supported operands: the screen for a signaling NaN, then the kernel (R338). -/
theorem encodes_prem1Of {a b : Fx80} (hu : (a.isUnsupported || b.isUnsupported) = false) (s : State) :
    Encodes s (prem1Of a b s) (if a.isSnan ∨ b.isSnan then (indef, invalidated s.sw)
      else (packExt (kRem s.kmode (unpackExt a) (unpackExt b)).1,
        s.sw ||| latchMask (kRem s.kmode (unpackExt a) (unpackExt b)).2)) := by
  rw [prem1Of, hu, if_neg Bool.false_ne_true]
  exact .ite Bool.or_eq_true_iff ⟨rfl, drains_latch_IE s⟩ ⟨rfl, drains_addFx _ s⟩

/-- Free codes leave the other bits of SW, with ES clear (R338; notes/assumptions/10.md). -/
theorem putCodes4_mask (c : BitVec 4) (w : Word) : putCodes4 c (w &&& 0xFF7F#16) &&& 0xB8FF#16 = w &&& 0xB87F#16 := by
  have hcodes : ∀ k < 16, (0xB8FF#16).getLsbD k = true → k ≠ 8 ∧ k ≠ 9 ∧ k ≠ 10 ∧ k ≠ 14 := by decide
  have hmask : ∀ k < 16, ((0xFF7F#16).getLsbD k && (0xB8FF#16).getLsbD k) = (0xB87F#16).getLsbD k := by decide
  refine word_ext fun k hk => ?_
  have hand := BitVec.getLsbD_and (i := k) (x := w) (y := 0xFF7F#16)
  rw [BitVec.getLsbD_and, BitVec.getLsbD_and, ← hmask k hk, ← Bool.and_assoc, ← hand]
  cases hb : (0xB8FF#16).getLsbD k with
  | false => rw [Bool.and_false, Bool.and_false]
  | true =>
    obtain ⟨h8, h9, h10, h14⟩ := hcodes k hk hb
    rw [sameButCodes_putCodes4 c _ k h8 h9 h10 h14]

/-- The commit of `FPREM1`: the result, four free codes, and the free value used up (R338). -/
theorem prem1_commit {v : Fx80} {sw : Word} (h : topOf sw = s.top) (c : BitVec 4) :
    skipFree (writeRemCodes (.free c) (writeStack 0 v { s with sw := sw })) =
      { written 0 v (putCodes4 c sw) s with free := s.free + 1 } := by
  rw [writeStack_commit h]
  rfl

/-- Settles O43: an absent operand by the stack underflow, present ones by the kernel and some codes. -/
theorem prem1Result : Obligations.Prem1Result := by
  intro s hfx a b
  refine ⟨fun habs => ?_, fun h0 h1 ha hb => ?_⟩
  · have hany : s.anyEmpty [0, 1] = true := (anyEmpty_pair 0 1 s).trans (Bool.or_eq_true_iff.mpr habs)
    have he : exec .fprem1 s =
        finish .fprem1 (funnel (fun u => .done (writeStack 0 indef u)) (checkOperands [0, 1] s)) := by
      show finish .fprem1 (prem1Top s) = _
      rw [prem1Top, if_pos hany]
    rw [checkOperands_absent hany] at he
    have hd := drains_setStackUnderflow s
    have hc : Computed s (setStackUnderflow s) := checkOperands_absent hany ▸ computed_checkOperands [0, 1] s
    exact settles_of_drains he hd hfx fun _ => writeStack_commit (hd.topOf_eq hc hfx)
  · intro k out
    have hany : s.anyEmpty [0, 1] = false := by rw [anyEmpty_pair, h0, h1]; rfl
    have hr : Encodes s (prem1Of a b s) out := encodes_prem1Of (Bool.or_eq_false_iff.mpr ⟨ha, hb⟩) s
    have htop := hr.state.topOf_eq (computed_prem1Of a b s) hfx
    have he : exec .fprem1 s = finish .fprem1 (funnel (fun u => .done (skipFree (writeRemCodes (.free (drawn 4 u))
        (writeStack 0 (prem1Of a b s).1 u)))) (prem1Of a b s).2) := by
      show finish .fprem1 (prem1Top s) = _
      rw [prem1Top, hany, if_neg Bool.false_ne_true, checkOperands_present hany]
    rw [hr.state.funnel hfx, hr.image] at he
    constructor
    · intro hp
      rw [if_pos hp, finish_done, prem1_commit htop] at he
      exact ⟨_, putCodes4_mask _ out.2, he⟩
    · intro hp
      rw [he, if_neg hp, finish_afterRequest]

end Sys2Proof.Machine
end

section
/-! The statement of 44_misc_arith.md on the partial remainder of finite operands (R337). It is exact because the remainder
of a division has no more significant bits than the smaller of its two operands. -/

namespace Sys2Proof.Machine

/-! ## Exact division -/

/-- A number written with a smaller power of two. -/
theorem mul_two_zpow_shift (m : ℕ) {i e : ℤ} (h : i ≤ e) :
    (m : ℝ) * (2 : ℝ) ^ e = ((m * 2 ^ (e - i).toNat : ℕ) : ℝ) * (2 : ℝ) ^ i := by
  push_cast
  rw [two_zpow_toNat (by omega), mul_assoc, two_zpow_mul, sub_add_cancel]

/-- The truncated quotient of two numbers with a common power of two, and the remainder it leaves. -/
theorem truncated_quotient (x : ℕ) {y : ℕ} (hy : y ≠ 0) (e : ℤ) :
    ((x / y : ℕ) : ℝ) ≤ (x * (2 : ℝ) ^ e) / (y * (2 : ℝ) ^ e) ∧
    (x * (2 : ℝ) ^ e) / (y * (2 : ℝ) ^ e) < (x / y : ℕ) + 1 ∧
    (x * (2 : ℝ) ^ e) - (x / y : ℕ) * (y * (2 : ℝ) ^ e) = (x % y : ℕ) * (2 : ℝ) ^ e := by
  have hr : ((x % y : ℕ) : ℝ) / y < 1 := by
    rw [div_lt_one (by positivity)]
    exact_mod_cast Nat.mod_lt x (Nat.pos_of_ne_zero hy)
  have hr0 : 0 ≤ ((x % y : ℕ) : ℝ) / y := by positivity
  have hdiv : (x : ℝ) = (x / y : ℕ) * y + (x % y : ℕ) := by exact_mod_cast (Nat.div_add_mod' x y).symm
  rw [mul_div_mul_right _ _ (two_zpow_pos e).ne', div_eq_floor_add hy, Int.cast_natCast]
  refine ⟨by linarith, by linarith, ?_⟩
  linear_combination (2 : ℝ) ^ e * hdiv

/-- `enc` of a remainder: a zero has the sign given too (R337). -/
def remainderOf (s : Bool) (r : ℕ) (e : ℤ) : Fx80 := packExt (if r = 0 then .zero s else .fin s r e)

theorem remainderOf_zero (s : Bool) (e : ℤ) : remainderOf s 0 e = encNat s 0 := by
  rw [remainderOf, if_pos rfl, encNat, if_pos rfl]

/-- A remainder is exact where one of the two operands has at most 64 significant bits, above the smallest exponent of the
format, and the dividend is in its range. -/
theorem remainderOf_exact (s : Bool) {x y X Y k : ℕ} {e : ℤ} (hx : x = X * 2 ^ k) (hy : y = Y * 2 ^ k) (hY : Y ≠ 0)
    (h64 : X < 2 ^ 64 ∨ Y < 2 ^ 64) (hk : -16445 ≤ e + k) (hmax : (x : ℝ) * (2 : ℝ) ^ e < (2 : ℝ) ^ (16384 : ℤ)) :
    (remainderOf s (x % y) e).sign = s ∧ fxIsAbs (remainderOf s (x % y) e) ((x % y : ℕ) * (2 : ℝ) ^ e) := by
  have hr : x % y = X % Y * 2 ^ k := by rw [hx, hy, Nat.mul_mod_mul_right]
  have hle : ((x % y : ℕ) : ℝ) * (2 : ℝ) ^ e ≤ x * (2 : ℝ) ^ e := by
    gcongr
    exact Nat.mod_le x y
  by_cases h0 : X % Y = 0
  · have hzero := fxIsAbs_encNat s (n := 0) (.inl rfl)
    rw [Nat.cast_zero] at hzero
    rw [hr, h0, Nat.zero_mul, remainderOf_zero, Nat.cast_zero, zero_mul]
    exact ⟨sign_encNat s (.inl rfl), hzero⟩
  · have hlt : X % Y < 2 ^ 64 := by
      have hX := Nat.mod_le X Y
      have hY := Nat.mod_lt X (Nat.pos_of_ne_zero hY)
      omega
    have hne : X % Y * 2 ^ k ≠ 0 := by positivity
    have hval : ((X % Y * 2 ^ k : ℕ) : ℝ) * (2 : ℝ) ^ e = (X % Y : ℕ) * (2 : ℝ) ^ (e + k) := by
      push_cast
      rw [mul_assoc, ← zpow_natCast, two_zpow_mul, add_comm]
    rw [hr, hval] at hle
    have hlog := two_zpow_lt.mp ((floorLog2_spec h0 (e + k)).1.trans_lt (hle.trans_lt hmax))
    rw [floorLog2] at hlog
    have h := (packExt_fin_isNumber s h0 hlt hk (by omega)).1
    rw [hr, hval, remainderOf, if_neg hne, packExt_fin_congr s hne h0 hval]
    exact ⟨h.sign, h.abs⟩

/-! ## The remainder step (R337) -/

theorem premFinite_eq (s : Bool) {m n x y : ℕ} {e g : ℤ} (hx : m * 2 ^ (e - min e g).toNat = x)
    (hy : n * 2 ^ (g - min e g).toNat = y) :
    premFinite s m e n g =
      if floorLog2 m e - floorLog2 n g < 64 then (remainderOf s (x % y) (min e g), .complete (x / y))
      else (remainderOf s (x % (y * 2 ^ (floorLog2 m e - floorLog2 n g - 63).toNat)) (min e g), .incomplete) := by
  subst hx hy
  rfl

/-- The remainder step of two numbers by the divisor itself. -/
theorem premFinite_complete (s : Bool) {m n : ℕ} {e g : ℤ} (hn : n ≠ 0) (hm64 : m < 2 ^ 64) (hn64 : n < 2 ^ 64)
    (he : -16445 ≤ e) (hg : -16445 ≤ g) (hmax : (m : ℝ) * (2 : ℝ) ^ e < (2 : ℝ) ^ (16384 : ℤ))
    (hd : floorLog2 m e - floorLog2 n g < 64) :
    ∃ (r : Fx80) (q : ℕ), r.sign = s ∧ premFinite s m e n g = (r, .complete q) ∧
      (q : ℝ) ≤ m * (2 : ℝ) ^ e / (n * (2 : ℝ) ^ g) ∧ m * (2 : ℝ) ^ e / (n * (2 : ℝ) ^ g) < q + 1 ∧
      fxIsAbs r (m * (2 : ℝ) ^ e - q * (n * (2 : ℝ) ^ g)) := by
  have hy : n * 2 ^ (g - min e g).toNat ≠ 0 := by positivity
  have hsmall : m * 2 ^ (e - min e g).toNat < 2 ^ 64 ∨ n * 2 ^ (g - min e g).toNat < 2 ^ 64 := by
    obtain h | h := le_total e g
    · left
      rwa [min_eq_left h, sub_self, Int.toNat_zero, pow_zero, mul_one]
    · right
      rwa [min_eq_right h, sub_self, Int.toNat_zero, pow_zero, mul_one]
  rw [premFinite_eq s rfl rfl, if_pos hd]
  rw [mul_two_zpow_shift m (min_le_left e g)] at hmax ⊢
  rw [mul_two_zpow_shift n (min_le_right e g)]
  obtain ⟨hlo, hhi, hrem⟩ := truncated_quotient (m * 2 ^ (e - min e g).toNat) hy (min e g)
  obtain ⟨hsign, habs⟩ := remainderOf_exact s (k := 0) (mul_one _).symm (mul_one _).symm hy hsmall
    (by push_cast; omega) hmax
  exact ⟨_, _, hsign, rfl, hlo, hhi, hrem ▸ habs⟩

/-- The remainder step of two numbers by the divisor scaled up. -/
theorem premFinite_incomplete (s : Bool) {m n : ℕ} {e g : ℤ} (hm : m ≠ 0) (hn : n ≠ 0) (hm64 : m < 2 ^ 64)
    (hn64 : n < 2 ^ 64) (hg : -16445 ≤ g) (hmax : (m : ℝ) * (2 : ℝ) ^ e < (2 : ℝ) ^ (16384 : ℤ)) {d : ℤ}
    (hd : floorLog2 m e - floorLog2 n g = d) (hd64 : 64 ≤ d) :
    ∃ (r : Fx80) (q : ℕ), r.sign = s ∧ premFinite s m e n g = (r, .incomplete) ∧
      (q : ℝ) ≤ m * (2 : ℝ) ^ e / (n * (2 : ℝ) ^ g * (2 : ℝ) ^ (d - 63)) ∧
      m * (2 : ℝ) ^ e / (n * (2 : ℝ) ^ g * (2 : ℝ) ^ (d - 63)) < q + 1 ∧
      fxIsAbs r (m * (2 : ℝ) ^ e - q * (n * (2 : ℝ) ^ g * (2 : ℝ) ^ (d - 63))) := by
  have hlog : m.log2 < 64 := (Nat.log2_lt hm).mpr hm64
  have hshift : d - 63 ≤ e - g := by
    rw [floorLog2, floorLog2] at hd
    omega
  have hmin : min e g = g := min_eq_right (by omega)
  have hy : n * 2 ^ (d - 63).toNat ≠ 0 := by positivity
  have hx : m * 2 ^ (e - g).toNat = m * 2 ^ (e - g - (d - 63)).toNat * 2 ^ (d - 63).toNat := by
    rw [mul_assoc, ← pow_add]
    congr 2
    omega
  have hyval : (n : ℝ) * (2 : ℝ) ^ g * (2 : ℝ) ^ (d - 63) =
      ((n * 2 ^ (d - 63).toNat : ℕ) : ℝ) * (2 : ℝ) ^ g := by
    push_cast
    rw [two_zpow_toNat (by omega), mul_right_comm]
  have hstep : premFinite s m e n g =
      (remainderOf s (m * 2 ^ (e - g).toNat % (n * 2 ^ (d - 63).toNat)) g, .incomplete) := by
    rw [premFinite_eq s rfl rfl, hd, if_neg (by omega), hmin, sub_self, Int.toNat_zero, pow_zero, mul_one]
  rw [hyval, hstep]
  rw [mul_two_zpow_shift m (by omega : g ≤ e)] at hmax ⊢
  obtain ⟨hlo, hhi, hrem⟩ := truncated_quotient (m * 2 ^ (e - g).toNat) hy g
  obtain ⟨hsign, habs⟩ := remainderOf_exact s hx rfl hn (.inr hn64) (by omega) hmax
  exact ⟨_, _, hsign, rfl, hlo, hhi, hrem ▸ habs⟩

/-! ## Numbers of the extended format -/

/-- `FPREM` of two numbers is the remainder step (R337). -/
theorem premOf_isNumber {a b : Fx80} {s t : Bool} {x y : ℝ} (ha : IsNumber a s x) (hb : IsNumber b t y) (u : State) :
    premOf a b u = (premFinite s a.low.toNat ((max a.exp.toNat 1 : ℕ) - 16446) b.low.toNat
      ((max b.exp.toNat 1 : ℕ) - 16446), u) := by
  obtain ⟨han, hai⟩ := Bool.or_eq_false_iff.mp (not_nan_or_inf_of_finite ha.finite)
  obtain ⟨hbn, hbi⟩ := Bool.or_eq_false_iff.mp (not_nan_or_inf_of_finite hb.finite)
  have hu : (a.isUnsupported || b.isUnsupported) = false := by rw [ha.supported, hb.supported]; rfl
  rw [premOf_supported hu, if_neg (by simp [Fx80.isSnan, han, hbn]), if_neg (by simp [han, hbn]),
    if_neg (by simp [hai, hb.nonzero]), if_neg (by simp [hbi, ha.nonzero]), premNumbers, ha.unpack, hb.unpack]

/-- The range of the extended format (40_kernel_and_protocol.md R132, R138). -/
theorem IsNumber.lt_range {a : Fx80} {s : Bool} {x : ℝ} (h : IsNumber a s x) :
    (a.low.toNat : ℝ) * (2 : ℝ) ^ ((max a.exp.toNat 1 : ℕ) - 16446 : ℤ) < (2 : ℝ) ^ (16384 : ℤ) := by
  have hlow : (a.low.toNat : ℝ) < (2 : ℝ) ^ (64 : ℤ) := by exact_mod_cast a.low.isLt
  calc (a.low.toNat : ℝ) * (2 : ℝ) ^ ((max a.exp.toNat 1 : ℕ) - 16446 : ℤ)
      < (2 : ℝ) ^ (64 : ℤ) * (2 : ℝ) ^ ((max a.exp.toNat 1 : ℕ) - 16446 : ℤ) :=
        mul_lt_mul_of_pos_right hlow (two_zpow_pos _)
    _ ≤ (2 : ℝ) ^ (64 : ℤ) * (2 : ℝ) ^ (16320 : ℤ) :=
        mul_le_mul_of_nonneg_left (two_zpow_le.mpr h.exponent_le) (two_zpow_pos _).le
    _ = (2 : ℝ) ^ (16384 : ℤ) := two_zpow_mul 64 16320

/-- Settles O25: the quotient of the two significands brought to one power of two, by the divisor itself or scaled. -/
theorem partialRemainderIsR337 : Obligations.PartialRemainderIsR337 := by
  intro a b s x y la lb hau hbu haf hbf haz hbz hax hby hla hla' hlb hlb'
  have ha := isNumber_of_finite hau haf haz hax
  have hb := isNumber_of_finite hbu hbf hbz hby
  have hmax := ha.lt_range
  have hea : (-16445 : ℤ) ≤ (max a.exp.toNat 1 : ℕ) - 16446 := by omega
  have heb : (-16445 : ℤ) ≤ (max b.exp.toNat 1 : ℕ) - 16446 := by omega
  rw [premOf_isNumber ha hb]
  obtain rfl : x = _ := hax
  obtain rfl : y = _ := hby
  have hlog {m : ℕ} {e l : ℤ} (hm : m ≠ 0) (h : (2 : ℝ) ^ l ≤ m * (2 : ℝ) ^ e)
      (h' : (m : ℝ) * (2 : ℝ) ^ e < (2 : ℝ) ^ (l + 1)) : floorLog2 m e = l := by
    obtain ⟨hlo, hhi⟩ := floorLog2_spec hm e
    exact two_zpow_unique hlo hhi h h'
  have hd := congrArg₂ (· - ·) (hlog ha.low_ne_zero hla hla') (hlog hb.low_ne_zero hlb hlb')
  by_cases h64 : la - lb < 64
  · obtain ⟨r, q, hsign, hstep, hlo, hhi, habs⟩ := premFinite_complete a.sign hb.low_ne_zero a.low.isLt b.low.isLt hea
      heb hmax (hd.trans_lt h64)
    exact ⟨r, q, hsign, fun _ => ⟨by rw [hstep], hlo, hhi, habs⟩, fun h => absurd h64 (not_lt.mpr h)⟩
  · obtain ⟨r, q, hsign, hstep, hlo, hhi, habs⟩ := premFinite_incomplete a.sign ha.low_ne_zero hb.low_ne_zero a.low.isLt
      b.low.isLt heb hmax hd (not_lt.mp h64)
    exact ⟨r, q, hsign, fun h => absurd h h64, fun _ => ⟨by rw [hstep], hlo, hhi, habs⟩⟩

end Sys2Proof.Machine
end

section
/-! The statement of 44_misc_arith.md on `FSCALE` (R335). -/

namespace Sys2Proof.Machine

variable {s : State}

/-! ## The integer of a finite value -/

/-- The integer of a number is its magnitude cut toward zero, with its sign (R335). -/
theorem integerOf_isNumber {b : Fx80} {t : Bool} {x : ℝ} (h : IsNumber b t x) :
    integerOf b = if t then -(⌊x⌋₊ : ℤ) else ⌊x⌋₊ := by
  have hx : x = _ := h.abs
  rw [integerOf, h.unpack]
  dsimp only
  rw [scale_eq_floor, ← hx]

/-- A finite value lies from its integer on to the next one. -/
theorem integerOf_finite {b : Fx80} {x : ℝ} (hu : b.isUnsupported = false) (hf : b.isFinite = true)
    (hx : fxIsAbs b x) : ∃ q : ℕ, (q : ℝ) ≤ x ∧ x < q + 1 ∧ integerOf b = if b.sign then -(q : ℤ) else q := by
  cases hz : b.isZero with
  | true =>
    have h0 : x = 0 := by
      rw [hx, (b.isZero_iff.mp hz).2, Nat.cast_zero, zero_mul]
    have hint : integerOf b = 0 := by rw [integerOf, unpackExt_zero hz]
    exact ⟨0, by simp [h0], by simp [h0], by simp [hint]⟩
  | false =>
    have h := isNumber_of_finite hu hf hz hx
    have hpos : 0 ≤ x := by
      rw [show x = _ from hx]
      positivity
    exact ⟨⌊x⌋₊, Nat.floor_le hpos, Nat.lt_floor_add_one x, integerOf_isNumber h⟩

/-! ## Infinities and signs -/

/-- What is no NaN, no infinity and no zero is a finite value above zero (R131, R132). -/
theorem unpackExt_fin {a : Fx80} (hn : ¬a.isNan = true) (hi : ¬a.isInf = true) (hz : ¬a.isZero = true) :
    unpackExt a = .fin a.sign a.low.toNat ((max a.exp.toNat 1 : ℕ) - 16446) := by
  rw [unpackExt, if_neg hn, if_neg hi, if_neg hz]

/-- The sign bit of an encoding alone. -/
theorem high_and_sign (a : Fx80) : a.high &&& 0x8000#16 = if a.sign then 0x8000#16 else 0x0000#16 := by
  refine word_ext fun k hk => ?_
  rw [BitVec.getLsbD_and, signMask_getLsbD k hk]
  by_cases h : k = 15
  · rw [h, decide_eq_true rfl, Bool.and_true, show a.high.getLsbD 15 = a.sign from rfl]
    cases a.sign <;> rfl
  · rw [decide_eq_false h, Bool.and_false]
    cases a.sign
    · exact BitVec.getLsbD_zero.symm
    · exact ((signMask_getLsbD k hk).trans (decide_eq_false h)).symm

theorem pinf_withSign (a : Fx80) :
    pinf.withSign a.sign = ⟨(a.high &&& 0x8000#16) ||| 0x7FFF#16, 0x8000000000000000#64⟩ := by
  rw [high_and_sign]
  cases a.sign <;> rfl

theorem pzero_withSign (a : Fx80) : pzero.withSign a.sign = ⟨a.high &&& 0x8000#16, 0#64⟩ := by
  rw [high_and_sign]
  cases a.sign <;> rfl

/-- The only supported infinity of a sign (R131). -/
theorem eq_inf_iff {b : Fx80} (h : b.isUnsupported = false) (t : Bool) :
    b = ⟨highWord t 0x7FFF, 0x8000000000000000#64⟩ ↔ b.isInf = true ∧ b.sign = t := by
  constructor
  · rintro rfl
    cases t <;> decide
  · rintro ⟨hi, rfl⟩
    rw [Fx80.isInf, Bool.and_eq_true, beq_iff_eq, beq_iff_eq] at hi
    obtain ⟨he, hf⟩ := hi
    have hexp : b.high.toNat % 2 ^ 15 = 0x7FFF := by
      have := congrArg BitVec.toNat he
      simpa [Fx80.exp] using this
    have hfrac : b.low.toNat % 2 ^ 63 = 0 := by
      have := congrArg BitVec.toNat hf
      simpa [Fx80.frac] using this
    have hj := b.isUnsupported_eq_false_iff.mp h (by rw [he]; decide)
    have hbit : signBit b.sign = b.high.toNat / 2 ^ 15 % 2 := by
      rw [Fx80.sign, BitVec.getLsbD, Nat.testBit_eq_decide_div_mod_eq, signBit]
      simp only [decide_eq_true_eq]
      split <;> omega
    have hlow := b.low.isLt
    have hhigh := b.high.isLt
    have h1 : b.high = highWord b.sign 0x7FFF := by
      rw [← BitVec.toNat_inj, highWord_toNat _ (by decide), hbit]
      omega
    have h2 : b.low = 0x8000000000000000#64 := by
      rw [← BitVec.toNat_inj, BitVec.toNat_ofNat]
      omega
    rw [← h1, ← h2]

/-! ## The table of R335 -/

/-- A choice in two steps, where the claim's term asks both conditions at once first. -/
theorem Encodes.ite_nested {α : Type} {c d c' : Prop} [Decidable c] [Decidable d] [Decidable c'] {x y z : α × State}
    {ox oy oz : α × Word} (hc : c ↔ c') (hx : Encodes s x ox) (hy : Encodes s y oy) (hz : ¬c' → Encodes s z oz) :
    Encodes s (if c then if d then x else y else z) (if c' ∧ d then ox else if c' then oy else oz) := by
  by_cases h : c'
  · rw [if_pos (hc.mpr h), if_pos h]
    exact .ite (and_iff_right h).symm hx hy
  · rw [if_neg (mt hc.mp h), if_neg fun h' => h h'.1, if_neg h]
    exact hz h

/-- The value scaled by the clamped integer of ST(1), rounded once, of a finite ST(0) that is no zero; an infinity or a
zero as it is (R335). -/
def scaleOut (a b : Fx80) (s : State) : Fx80 × Word :=
  if a.isInf ∨ a.isZero then (a, s.sw)
  else
    let x := roundF .ext s.rm a.sign a.low.toNat 1 ((max a.exp.toNat 1 : Nat) - 16446 + scaleClamp (integerOf b))
    (packExt x.1, s.sw ||| latchMask x.2)

/-- `FSCALE` of two supported operands by the lines of the table of R335. -/
theorem encodes_scaleOf {a b : Fx80} (hu : (a.isUnsupported || b.isUnsupported) = false) (s : State) :
    Encodes s (scaleOf a b s)
      (if a.isSnan ∨ b.isSnan then (indef, invalidated s.sw)
      else if a.isNan ∨ b.isNan then (nanOf a b s, s.sw)
      else if b = pinf ∧ a.isZero then (indef, invalidated s.sw)
      else if b = pinf then (⟨(a.high &&& 0x8000#16) ||| 0x7FFF#16, 0x8000000000000000#64⟩, s.sw)
      else if b = ninf ∧ a.isInf then (indef, invalidated s.sw)
      else if b = ninf then (⟨a.high &&& 0x8000#16, 0#64⟩, s.sw)
      else scaleOut a b s) := by
  have hinv : Encodes s (invalidNow s) (indef, invalidated s.sw) := ⟨rfl, drains_latch_IE s⟩
  have hb : b.isUnsupported = false := (Bool.or_eq_false_iff.mp hu).2
  have hpinf : (b.isInf && !b.sign) = true ↔ b = pinf := by
    rw [show b = pinf ↔ _ from eq_inf_iff hb false, Bool.and_eq_true, Bool.not_eq_true']
  have hninf (hp : ¬b = pinf) : b.isInf = true ↔ b = ninf := by
    rw [show b = pinf ↔ _ from eq_inf_iff hb false] at hp
    rw [show b = ninf ↔ _ from eq_inf_iff hb true, iff_self_and]
    exact fun hi => by simpa [hi] using hp
  rw [scaleOf, hu, if_neg Bool.false_ne_true]
  refine .ite Bool.or_eq_true_iff hinv ?_
  by_cases hn : a.isNan = true ∨ b.isNan = true
  · rw [if_pos (Bool.or_eq_true_iff.mpr hn), if_pos hn]
    exact ⟨rfl, drains_refl s⟩
  rw [if_neg (mt Bool.or_eq_true_iff.mp hn), if_neg hn]
  refine .ite_nested hpinf hinv ⟨pinf_withSign a, drains_refl s⟩ fun hp => ?_
  refine .ite_nested (hninf hp) hinv ⟨pzero_withSign a, drains_refl s⟩ fun _ => ?_
  unfold scaleOut
  by_cases hi : a.isInf = true
  · rw [unpackExt_inf hi, if_pos (.inl hi)]
    exact ⟨rfl, drains_refl s⟩
  by_cases hz : a.isZero = true
  · rw [unpackExt_zero hz, if_pos (.inr hz)]
    exact ⟨rfl, drains_refl s⟩
  rw [unpackExt_fin (fun h => hn (.inl h)) hi hz, if_neg (not_or.mpr ⟨hi, hz⟩)]
  exact ⟨rfl, drains_addFx _ s⟩

/-- Settles O40: the integer by the floor of the magnitude, the result by the table of R335. -/
theorem scaleResult : Obligations.ScaleResult := by
  refine ⟨fun b x hu hf hx => integerOf_finite hu hf hx, fun s hfx => ?_⟩
  intro a b e hok n out
  have hr : Encodes s (binaryResult indef scaleOf s) out :=
    encodes_binaryResult fun he => encodes_scaleOf (supported_of_present hok he) s
  exact settles_writeTop rfl hfx (computed_binaryResult computed_scaleOf s) hr

end Sys2Proof.Machine
end

section
/-! SUPPORT. The order of two operands that are no NaNs (45_compare.md R352). -/

namespace Sys2Proof.Machine

/-! ## The order of two reals -/

/-- The relation that puts two reals in order. -/
def Rel.Orders (r : Rel) (x y : ℝ) : Prop :=
  (x < y → r = .less) ∧ (x = y → r = .equal) ∧ (y < x → r = .greater)

theorem less_orders {x y : ℝ} (h : x < y) : Rel.less.Orders x y :=
  ⟨fun _ => rfl, fun he => absurd he h.ne, fun hg => absurd hg h.not_gt⟩

theorem equal_orders (x : ℝ) : Rel.equal.Orders x x :=
  ⟨fun h => absurd h (lt_irrefl x), fun _ => rfl, fun h => absurd h (lt_irrefl x)⟩

theorem greater_orders {x y : ℝ} (h : y < x) : Rel.greater.Orders x y :=
  ⟨fun hl => absurd hl h.not_gt, fun he => absurd he.symm h.ne, fun _ => rfl⟩

/-- Two integers at one power of two are in the order of the integers. -/
theorem relInt_orders (i j k : ℤ) : (relInt i j).Orders (i * (2 : ℝ) ^ k) (j * (2 : ℝ) ^ k) := by
  have hmono {a b : ℤ} (h : a < b) : (a : ℝ) * (2 : ℝ) ^ k < b * (2 : ℝ) ^ k :=
    mul_lt_mul_of_pos_right (Int.cast_lt.mpr h) (two_zpow_pos k)
  rw [relInt]
  split
  · next h => exact less_orders (hmono h)
  · next h =>
    split
    · next h' => exact greater_orders (hmono h')
    · next h' =>
      rw [le_antisymm (not_lt.mp h') (not_lt.mp h)]
      exact equal_orders _

/-! ## The values of the kernel -/

/-- The real number that a finite value or a zero holds. -/
inductive Val.IsReal : Val → ℝ → Prop
  | zero (s : Bool) : IsReal (.zero s) 0
  | fin (s : Bool) {m : ℕ} (h : m ≠ 0) (e : ℤ) : IsReal (.fin s m e) (signedReal s m e)

theorem signedReal_zero (s : Bool) (e : ℤ) : signedReal s 0 e = 0 := by simp [signedReal]

theorem signedReal_pos {m : ℕ} (h : m ≠ 0) (e : ℤ) : 0 < signedReal false m e := by
  rw [signedReal, if_neg Bool.false_ne_true, one_mul]
  positivity

theorem signedReal_neg {m : ℕ} (h : m ≠ 0) (e : ℤ) : signedReal true m e < 0 := by
  rw [signedReal, if_pos rfl, neg_one_mul, neg_lt_zero]
  positivity

/-- The relation of two finite values is the order of their reals, the two zeros equal (R352). -/
theorem relVal_orders {v w : Val} {x y : ℝ} (hv : v.IsReal x) (hw : w.IsReal y) : (relVal v w).Orders x y :=
  match hv, hw with
  | .zero _, .zero _ => equal_orders 0
  | .zero _, .fin true hn g => greater_orders (signedReal_neg hn g)
  | .zero _, .fin false hn g => less_orders (signedReal_pos hn g)
  | .fin true hm e, .zero _ => less_orders (signedReal_neg hm e)
  | .fin false hm e, .zero _ => greater_orders (signedReal_pos hm e)
  | .fin s (m := m) _ e, .fin t (m := n) _ g => by
    rw [← signedAt_mul (min_le_left e g), ← signedAt_mul (min_le_right e g)]
    exact relInt_orders _ _ (min e g)

/-- A finite, supported operand unpacks to its value (40_kernel_and_protocol.md R132). -/
theorem unpackExt_isReal {a : Fx80} {x : ℝ} (hu : a.isUnsupported = false) (hn : a.isNan = false)
    (hi : ¬a.isInf = true) (hx : fxIsReal a x) : (unpackExt a).IsReal x := by
  obtain rfl : x = signedReal a.sign a.low.toNat _ := hx
  cases hz : a.isZero with
  | true =>
    rw [unpackExt_zero hz, (a.isZero_iff.mp hz).2, signedReal_zero]
    exact .zero _
  | false =>
    have hf : a.isFinite = true := by
      by_contra hf
      exact (isNan_or_isInf (Bool.eq_false_iff.mpr hf)).elim (by simp [hn]) hi
    have hnum := isNumber_of_finite hu hf hz rfl
    rw [hnum.unpack]
    exact .fin _ hnum.low_ne_zero _

/-! ## Infinities -/

/-- An infinity compares by its sign with all but a NaN and an infinity. -/
theorem relVal_inf_left {b : Fx80} (hn : b.isNan = false) (hi : ¬b.isInf = true) (s : Bool) :
    relVal (.inf s) (unpackExt b) = if s then .less else .greater := by
  cases hz : b.isZero with
  | true => rw [unpackExt_zero hz]; rfl
  | false => rw [unpackExt_fin (by simp [hn]) hi (by simp [hz])]; rfl

theorem relVal_inf_right {a : Fx80} (hn : a.isNan = false) (hi : ¬a.isInf = true) (t : Bool) :
    relVal (unpackExt a) (.inf t) = if t then .greater else .less := by
  cases hz : a.isZero with
  | true => rw [unpackExt_zero hz]; rfl
  | false => rw [unpackExt_fin (by simp [hn]) hi (by simp [hz])]; rfl

theorem relVal_inf_inf (s t : Bool) :
    relVal (.inf s) (.inf t) = if s = t then .equal else if s then .less else .greater := by
  cases s <;> cases t <;> rfl

/-- The relation of two supported operands that are no NaNs is their order (R352). -/
theorem relVal_isOrder {a b : Fx80} (hau : a.isUnsupported = false) (hbu : b.isUnsupported = false)
    (han : a.isNan = false) (hbn : b.isNan = false) : IsOrder a b (relVal (unpackExt a) (unpackExt b)) := by
  unfold IsOrder
  by_cases hai : a.isInf = true <;> by_cases hbi : b.isInf = true
  · rw [if_pos ⟨hai, hbi⟩, unpackExt_inf hai, unpackExt_inf hbi]
    exact relVal_inf_inf _ _
  · rw [if_neg fun h => hbi h.2, if_pos hai, unpackExt_inf hai]
    exact relVal_inf_left hbn hbi _
  · rw [if_neg fun h => hai h.1, if_neg hai, if_pos hbi, unpackExt_inf hbi]
    exact relVal_inf_right han hai _
  · rw [if_neg fun h => hai h.1, if_neg hai, if_neg hbi]
    exact fun x y hx hy => relVal_orders (unpackExt_isReal hau han hai hx) (unpackExt_isReal hbu hbn hbi hy)

theorem relOut_numbers (kind : CmpKind) {a b : Fx80} (ha : a.isNan = false) (hb : b.isNan = false) (sw : Word) :
    relOut kind a b sw = (relVal (unpackExt a) (unpackExt b), sw) := by
  rw [relOut, if_neg (by simp [ha, hb])]

end Sys2Proof.Machine
end

section
/-! The statements of 45_compare.md on the compares of two stack operands, to the condition codes and to the host flags,
and on `FTST` (45_compare.md R350 to R352, R357 to R362, R367 to R371). -/

namespace Sys2Proof.Machine

variable {s t : State}

/-! ## The pops of a compare -/

/-- Pops replace the status word. -/
theorem poppedTimes_sw (n : ℕ) (sw sw' : Word) (s : State) :
    poppedTimes n sw { s with sw := sw' } = poppedTimes n sw s := by
  induction n generalizing sw s with
  | zero => rfl
  | succ n ih => exact ih _ { s with tw := putTag s.tw (topOf sw) tagEmpty }

/-- ST(k) after a pop was ST(k+1) before. -/
theorem isEmpty_poppedIf (sw : Word) {k : Slot} (hk : k + 1 ≠ 0) :
    (poppedIf true sw s).isEmpty k = s.isEmpty (k + 1) := by
  have htop : (poppedIf true sw s).phys k = s.phys (k + 1) := by
    show topOf (putTop sw (s.top + 1)) + k = s.top + (k + 1)
    rw [topOf_putTop, BitVec.add_assoc, BitVec.add_comm 1]
  have hother : s.phys (k + 1) ≠ s.top := by simpa [State.phys] using hk
  rw [State.isEmpty, State.isEmpty, State.tag, State.tag, htop]
  exact congrArg (· == tagEmpty) (tagOfSlot_putTag_other s.tw _ _ _ hother)

/-- A move of TOP leaves the mark of a stack underflow. -/
theorem underflowed_putTop {sw : Word} (h : underflowed sw = sw) (p : Slot) :
    underflowed (putTop sw p) = putTop sw p := by
  rw [underflowed_eq_self_iff] at h ⊢
  rwa [putTop_getLsbD _ _ _ (by decide), putTop_getLsbD _ _ _ (by decide), putTop_getLsbD _ _ _ (by decide)]

/-- Pops of occupied slots, or of EMPTY ones whose stack underflow, found by the checks, is masked (R162). -/
theorem popTimes_checked {n : ℕ} (hn : n ≤ 8)
    (h : ∀ k < n, t.isEmpty (BitVec.ofNat 3 k) = true → t.cw.getLsbD 0 = true ∧ underflowed t.sw = t.sw) :
    popTimes n t = poppedTimes n t.sw t := by
  induction n generalizing t with
  | zero => rfl
  | succ n ih =>
    have hpop : pop t = poppedIf true t.sw t := popIf_commit true (h 0 (Nat.succ_pos n))
    have hrest : ∀ k < n, (poppedIf true t.sw t).isEmpty (BitVec.ofNat 3 k) = true →
        t.cw.getLsbD 0 = true ∧ underflowed (putTop t.sw (t.top + 1)) = putTop t.sw (t.top + 1) := by
      intro k hk he
      have hsucc : BitVec.ofNat 3 k + 1 = BitVec.ofNat 3 (k + 1) := (BitVec.ofNat_add k 1).symm
      have hne : BitVec.ofNat 3 k + 1 ≠ 0 := by
        rw [hsucc]
        exact fun h0 => by simpa [Nat.mod_eq_of_lt (by omega : k + 1 < 8)] using congrArg BitVec.toNat h0
      rw [isEmpty_poppedIf _ hne, hsucc] at he
      obtain ⟨hm, hu⟩ := h (k + 1) (by omega) he
      exact ⟨hm, underflowed_putTop hu _⟩
    calc popTimes (n + 1) t = popTimes n (poppedIf true t.sw t) := congrArg (popTimes n) hpop
      _ = poppedTimes n (putTop t.sw (t.top + 1)) (poppedIf true t.sw t) := ih (by omega) hrest
      _ = poppedTimes (n + 1) t.sw t := poppedTimes_sw n _ _ { t with tw := putTag t.tw t.top tagEmpty }

theorem poppedTimes_eq_poppedIf (p : Bool) {sw : Word} (h : topOf sw = s.top) :
    poppedTimes (if p then 1 else 0) sw s = poppedIf p sw s := by
  cases p with
  | false => rfl
  | true =>
    rw [poppedIf, ← h]
    rfl

/-! ## The commit of a compare -/

/-- The state after the result of a compare is written over SW `u` (R350, R351). -/
def CmpDest.written (d : CmpDest) (r : Rel) (u : Word) (s : State) : State :=
  match d with
  | .codes => { s with sw := codesWord r u }
  | .flags => { writeRelFlags r s with sw := u }

theorem CmpDest.write_eq (d : CmpDest) (r : Rel) (u : Word) (s : State) :
    d.write r { s with sw := u } = d.written r u s := by
  cases d with
  | codes => exact writeRelCodes_eq r { s with sw := u }
  | flags => rfl

theorem CmpDest.written_top (d : CmpDest) (r : Rel) (u : Word) (s : State) : (d.written r u s).top = topOf u := by
  cases d with
  | codes => exact topOf_codesWord r u
  | flags => rfl

theorem CmpDest.written_tw (d : CmpDest) (r : Rel) (u : Word) (s : State) : (d.written r u s).tw = s.tw := by
  cases d <;> rfl

theorem CmpDest.written_cw (d : CmpDest) (r : Rel) (u : Word) (s : State) : (d.written r u s).cw = s.cw := by
  cases d <;> rfl

/-- A result leaves the mark of a stack underflow. -/
theorem CmpDest.underflowed_written (d : CmpDest) (r : Rel) {u : Word} (h : underflowed u = u) (s : State) :
    underflowed (d.written r u s).sw = (d.written r u s).sw := by
  cases d with
  | codes => exact underflowed_codesWord r h
  | flags => exact h

/-- A compare settles as its relation: the result at its destination, then the pops. The slots it pops are among its
operands, so an EMPTY one is one that the checks have found (R351). -/
theorem settles_compare {i : Instr} {d : CmpDest} {n : ℕ} {r : Rel × State} {o : Rel × Word} {commit : Word → State}
    (he : exec i s = finish i (cmpCommit d n r)) (hfx : s.fx = KFlags.empty) (hn : n ≤ 8) (hc : Computed s r.2)
    (hr : Encodes s r o)
    (hempty : ∀ k < n, s.isEmpty (BitVec.ofNat 3 k) = true → ∃ sw, o.2 = underflowed sw)
    (hcommit : ∀ u, topOf u = s.top → poppedTimes n (d.written o.1 u s).sw (d.written o.1 u s) = commit u) :
    settles i s o.2 commit := by
  have htop := hr.state.topOf_eq hc hfx
  rw [cmpCommit, hr.image] at he
  refine settles_of_drains he hr.state hfx fun hp => ?_
  rw [← hcommit _ htop, CmpDest.write_eq]
  refine popTimes_checked hn fun k hk hk0 => ?_
  rw [State.isEmpty, State.tag, State.phys, CmpDest.written_top, htop, CmpDest.written_tw] at hk0
  obtain ⟨sw, hsw⟩ := hempty k hk hk0
  rw [hsw] at hp ⊢
  rw [CmpDest.written_cw]
  exact ⟨masked_IE_of_underflowed hp, d.underflowed_written _ (underflowed_clearES sw) s⟩

/-! ## Two stack operands -/

/-- The relation that a compare finds after the checks of its stack operands (R351). -/
def checkedRelation (is : List Slot) (kind : CmpKind) (a b : Fx80) (s : State) : Rel × State :=
  if s.anyEmpty is then (.unordered, checkOperands is s) else relOf kind a b (checkOperands is s)

theorem computed_checkedRelation (is : List Slot) (kind : CmpKind) (a b : Fx80) (s : State) :
    Computed s (checkedRelation is kind a b s).2 :=
  (computed_checkOperands is s).trans (.ite (.refl _) (computed_relOf _ _ _ _))

/-- The claims' term for it. -/
def checkedOut (is : List Slot) (kind : CmpKind) (a b : Fx80) (s : State) : Rel × Word :=
  if s.anyEmpty is then (.unordered, underflowed s.sw) else relOut kind a b s.sw

theorem checkedOut_pair (i j : Slot) (kind : CmpKind) (a b : Fx80) (s : State) : checkedOut [i, j] kind a b s =
    if s.isEmpty i || s.isEmpty j then (.unordered, underflowed s.sw) else relOut kind a b s.sw := by
  rw [checkedOut, anyEmpty_pair]

theorem encodes_checkedRelation {is : List Slot} (kind : CmpKind) {a b : Fx80}
    (h : s.anyEmpty is = true ∨ (a.isUnsupported = false ∧ b.isUnsupported = false)) :
    Encodes s (checkedRelation is kind a b s) (checkedOut is kind a b s) := by
  rw [checkedRelation, checkedOut]
  cases he : s.anyEmpty is with
  | true =>
    rw [checkOperands_absent he]
    exact ⟨rfl, drains_setStackUnderflow s⟩
  | false =>
    obtain ⟨ha, hb⟩ := h.resolve_left (Bool.eq_false_iff.mp he)
    rw [checkOperands_present he, relOf_supported kind ha hb]
    exact ⟨rfl, drains_sw s _⟩

/-- A compare after the checks of its stack operands, among which are the slots it pops, settles as their relation. -/
theorem settles_checkedCompare {i : Instr} {d : CmpDest} {n : ℕ} {is : List Slot} {kind : CmpKind} {a b : Fx80}
    {commit : Word → State} (he : exec i s = finish i (cmpCommit d n (checkedRelation is kind a b s)))
    (hfx : s.fx = KFlags.empty) (hn : n ≤ 8) (hpops : popSlots n ⊆ is)
    (hok : s.anyEmpty is = true ∨ (a.isUnsupported = false ∧ b.isUnsupported = false))
    (hcommit : ∀ u, topOf u = s.top →
      let r := (checkedOut is kind a b s).1
      poppedTimes n (d.written r u s).sw (d.written r u s) = commit u) :
    settles i s (checkedOut is kind a b s).2 commit := by
  refine settles_compare he hfx hn (computed_checkedRelation is kind a b s) (encodes_checkedRelation kind hok)
    (fun k hk hk0 => ⟨s.sw, ?_⟩) hcommit
  have hmem : BitVec.ofNat 3 k ∈ is := hpops (List.mem_map_of_mem (List.mem_range.mpr hk))
  have hany : s.anyEmpty is = true := List.any_eq_true.mpr ⟨_, hmem, hk0⟩
  rw [checkedOut, if_pos hany]

theorem anyEmpty_operands (j : Slot) {p : Prop} (h : s.isEmpty 0 = true ∨ s.isEmpty j = true ∨ p) :
    s.anyEmpty [0, j] = true ∨ p := by
  rwa [anyEmpty_pair, Bool.or_eq_true, or_assoc]

/-! ## To the condition codes -/

theorem exec_cmpRegRow {i : Slot} {r : Instr × CmpKind × Slot × ℕ} (hr : r ∈ cmpRegRows i) (s : State) :
    exec r.1 s = finish r.1 (cmpReg r.2.1 .codes r.2.2.2 r.2.2.1 s) := by
  fin_cases hr <;> rfl

/-- A compare pops ST(0) alone, or ST(0) and the ST(1) it compares with (R357 to R362). -/
theorem pops_of_cmpRegRow {i : Slot} {r : Instr × CmpKind × Slot × ℕ} (hr : r ∈ cmpRegRows i) :
    r.2.2.2 ≤ 8 ∧ popSlots r.2.2.2 ⊆ [0, r.2.2.1] := by
  fin_cases hr <;> simp [popSlots, List.range_succ]

/-- Settles O45: the order by the classes of the operands; then each compare as the relation of its checked operands. -/
theorem comparesOnStack : Obligations.ComparesOnStack := by
  refine ⟨fun kind a b sw hau hbu han hbn => ?_, fun i s hfx => ⟨?_, ?_⟩⟩
  · rw [relOut_numbers kind han hbn]
    exact ⟨relVal_isOrder hau hbu han hbn, rfl⟩
  · intro r hr j hok out
    obtain ⟨hn, hpops⟩ := pops_of_cmpRegRow hr
    rw [show out = _ from (checkedOut_pair 0 j r.2.1 (s.st 0) (s.st j) s).symm]
    exact settles_checkedCompare (d := .codes) (exec_cmpRegRow hr s) hfx hn hpops (anyEmpty_operands j hok)
      fun u _ => poppedTimes_sw _ _ _ s
  · intro hok out
    have hany := anyEmpty_singleton 0 s
    have hout : out = checkedOut [0] .ordered (s.st 0) pzero s := by rw [checkedOut, hany]; rfl
    have he : exec .ftst s = finish .ftst (cmpCommit .codes 0 (checkedRelation [0] .ordered (s.st 0) pzero s)) := by
      rw [checkedRelation, hany]
      rfl
    rw [hout]
    exact settles_checkedCompare he hfx (by decide) (List.nil_subset _) (hany ▸ hok.imp_right (⟨·, by decide⟩))
      fun u _ => rfl

/-! ## To the host flags -/

theorem exec_cmpFlagRow {i : Slot} {r : Instr × CmpKind × Bool} (hr : r ∈ cmpFlagRows i) (s : State) :
    exec r.1 s = finish r.1 (cmpReg r.2.1 .flags (if r.2.2 then 1 else 0) i s) := by
  fin_cases hr <;> rfl

/-- The flags by the row of the truth table (R350). -/
theorem writeRelFlags_eq (r : Rel) (s : State) : writeRelFlags r s = { s with
    zf := decide (r = .equal ∨ r = .unordered), pf := decide (r = .unordered),
    cf := decide (r = .less ∨ r = .unordered) } := by
  cases r <;> rfl

/-- Settles O46: each compare as the relation of its checked operands, its flags by the truth table. -/
theorem comparesToFlags : Obligations.ComparesToFlags := by
  intro i s hfx r hr hok out
  have hn : (if r.2.2 then 1 else 0) ≤ 1 := by split <;> decide
  rw [show out = _ from (checkedOut_pair 0 i r.2.1 (s.st 0) (s.st i) s).symm]
  refine settles_checkedCompare (d := .flags) (exec_cmpFlagRow hr s) hfx (by omega) (popSlots_subset_of_le hn _)
    (anyEmpty_operands i hok) fun u hu => ?_
  rw [← writeRelFlags_eq]
  exact (poppedTimes_sw _ _ _ _).trans (poppedTimes_eq_poppedIf r.2.2 hu)

end Sys2Proof.Machine
end

section
/-! The statement of 45_compare.md on `FXAM` (R385, R386). -/

namespace Sys2Proof.Machine

/-! ## The fields that the classes read -/

/-- The low `k` bits of a word, read as a field and under their mask. -/
theorem lowField_eq_iff {n k : ℕ} (hk : k ≤ n) (w : BitVec n) (c : BitVec k) {m : BitVec n}
    (hm : m.toNat = 2 ^ k - 1) : w.extractLsb' 0 k = c ↔ w &&& m = c.setWidth n := by
  rw [← BitVec.toNat_inj, ← BitVec.toNat_inj, BitVec.toNat_and, hm, Nat.and_two_pow_sub_one_eq_mod,
    BitVec.extractLsb'_toNat, Nat.shiftRight_zero, BitVec.toNat_setWidth_of_le hk]

theorem exp_eq_zero_iff (v : Fx80) : v.exp = 0#15 ↔ v.high &&& 0x7FFF#16 = 0#16 :=
  lowField_eq_iff (by decide) v.high 0#15 rfl

theorem exp_eq_ones_iff (v : Fx80) : v.exp = 0x7FFF#15 ↔ v.high &&& 0x7FFF#16 = 0x7FFF#16 :=
  lowField_eq_iff (by decide) v.high 0x7FFF#15 rfl

theorem frac_eq_zero_iff (v : Fx80) : v.frac = 0#63 ↔ v.low &&& 0x7FFFFFFFFFFFFFFF#64 = 0#64 :=
  lowField_eq_iff (by decide) v.low 0#63 rfl

/-! ## The codes in masks -/

/-- The bits of C3, C2 and C0. -/
def Codes.word (c : Codes) : Word :=
  (if c.c3 then 0x4000#16 else 0#16) ||| (if c.c2 then 0x0400#16 else 0#16) ||| (if c.c0 then 0x0100#16 else 0#16)

theorem putCodes_C1_eq (c : Codes) (b : Bool) (sw : Word) :
    putBit (putCodes c sw) bitC1 b = (sw &&& 0xB8FF#16) ||| c.word ||| (if b then 0x0200#16 else 0#16) := by
  have hbits : ∀ k < 16, ∀ c3 c2 c0 b x : Bool,
      (if k = 9 then b else if k = 8 then c0 else if k = 10 then c2 else if k = 14 then c3 else x) =
        (x && (0xB8FF#16).getLsbD k || (Codes.word ⟨c3, c2, c0⟩).getLsbD k ||
          (if b then 0x0200#16 else 0#16).getLsbD k) := by
    decide
  refine word_ext fun k hk => ?_
  simp only [putCodes, putBit_getLsbD, hk, and_true, BitVec.getLsbD_or, BitVec.getLsbD_and]
  exact hbits k hk _ _ _ _ _

/-- The class of a register in C3, C2, C0: the table of R385 by the stored fields, its first line that applies. -/
theorem xamCodes_word (empty : Bool) (v : Fx80) : (xamCodes empty v).word =
    if empty then 0x4100#16
    else if v.exp ≠ 0#15 ∧ v.j = false then 0x0000#16
    else if v.exp = 0x7FFF#15 ∧ v.frac ≠ 0#63 then 0x0100#16
    else if v.exp = 0x7FFF#15 then 0x0500#16
    else if v.exp = 0#15 ∧ v.low = 0#64 then 0x4000#16
    else if v.exp = 0#15 then 0x4400#16
    else 0x0400#16 := by
  have hinf (hn : ¬(v.exp = 0x7FFF#15 ∧ v.frac ≠ 0#63)) : v.isInf = true ↔ v.exp = 0x7FFF#15 := by
    simpa [Fx80.isInf] using fun he => by simpa [he] using hn
  simp only [xamCodes, apply_ite Codes.word]
  refine if_congr Iff.rfl rfl (if_congr (by simp [Fx80.isUnsupported]) rfl ?_)
  refine if_ctx_congr (by simp [Fx80.isNan]) (fun _ => rfl) fun hn => if_congr (hinf hn) rfl ?_
  exact if_congr (by simp [Fx80.isZero]) rfl rfl

/-- Settles O47: the codes of the class, then the stored sign. -/
theorem examineClassifies : Obligations.ExamineClassifies := by
  intro s v e cls
  have hcls : cls = (xamCodes (s.isEmpty 0) v).word := by
    simp only [xamCodes_word, ne_eq, exp_eq_zero_iff, exp_eq_ones_iff, frac_eq_zero_iff]
    rfl
  rw [hcls]
  exact congrArg (fun w => Host.Outcome.next (charged .fxam { s with sw := w }))
    (putCodes_C1_eq (xamCodes (s.isEmpty 0) v) v.sign s.sw)

end Sys2Proof.Machine
end

section
/-! The statement of 45_compare.md on the conditional moves (R390 to R398). -/

namespace Sys2Proof.Machine

variable {s : State}

/-- Each conditional move is the template under its condition (R391 to R398). -/
theorem exec_cmovRow {i : Slot} {r : Instr × Bool} (hr : r ∈ cmovRows i s.cf s.zf s.pf) :
    ∃ c : Cond, c.holds s = r.2 ∧ exec r.1 s = finish r.1 (moveIf c i s) := by
  simp only [cmovRows, List.mem_cons, List.not_mem_nil, or_false] at hr
  obtain rfl | rfl | rfl | rfl | rfl | rfl | rfl | rfl := hr
  · exact ⟨.b, rfl, rfl⟩
  · exact ⟨.e, rfl, rfl⟩
  · exact ⟨.be, rfl, rfl⟩
  · exact ⟨.u, rfl, rfl⟩
  · exact ⟨.nb, rfl, rfl⟩
  · exact ⟨.ne, rfl, rfl⟩
  · exact ⟨.nbe, rfl, rfl⟩
  · exact ⟨.nu, rfl, rfl⟩

/-- Settles O48: under a false condition the handler is done; under a true one the check of ST(i) and the write. -/
theorem conditionalMoves : Obligations.ConditionalMoves := by
  intro i s r hr
  obtain ⟨c, hc, he⟩ := exec_cmovRow hr
  refine ⟨fun hfalse => ?_, fun htrue hfx => ?_⟩
  · rw [he, moveIf, hc, hfalse, if_neg Bool.false_ne_true, finish_done]
  · rw [moveIf, hc, htrue, if_pos rfl] at he
    have hd := drains_checkOperands [i] s
    rw [anyEmpty_singleton] at hd
    exact settles_of_drains he hd hfx fun _ => writeStack_commit (hd.topOf_eq (computed_checkOperands [i] s) hfx)

end Sys2Proof.Machine
end

section
/-! SUPPORT. Binary64 words by their class, and the product of two of them (40_kernel_and_protocol.md R138, R146;
46_transcendental.md R402). -/

namespace Sys2Proof.Machine

variable {x : BitVec 64} {s t : Bool} {m n : ℕ} {e g : ℤ}

/-! ## The class of a word -/

/-- The class of a binary64 word by its fields. -/
theorem unpackF64_fields (x : BitVec 64) : unpackF64 x =
    if (x.extractLsb' 52 11).toNat = 2047 then
      (if (x.extractLsb' 0 52).toNat = 0 then .inf (x.getLsbD 63) else .nan (x.getLsbD 63) (x.extractLsb' 0 52).toNat)
    else if (x.extractLsb' 52 11).toNat = 0 then
      (if (x.extractLsb' 0 52).toNat = 0 then .zero (x.getLsbD 63)
        else .fin (x.getLsbD 63) (x.extractLsb' 0 52).toNat (-1074))
    else .fin (x.getLsbD 63) (2 ^ 52 + (x.extractLsb' 0 52).toNat) ((x.extractLsb' 52 11).toNat - 1023 - 52) := by
  rw [unpackF64_eq, unpackNarrow_narrowWord (BitVec.isLt _) (BitVec.isLt _)]
  rfl

theorem eq_zero_of_unpackF64 (h : unpackF64 x = .zero s) : x = d64WithSign s d64Zero := by
  have hw := toNat_f64 x
  rw [unpackF64_fields] at h
  split_ifs at h with _ _ hex hfrac
  rw [hex, hfrac, Val.zero.inj h] at hw
  refine BitVec.eq_of_toNat_eq (hw.trans ?_)
  cases s <;> rfl

theorem sign_of_unpackF64_inf (h : unpackF64 x = .inf s) : x.getLsbD 63 = s := by
  rw [unpackF64_fields] at h
  split_ifs at h
  exact Val.inf.inj h

/-- A finite word has the sign of its bit 63, and its value is a number of the format. -/
theorem unpackF64_fin (h : unpackF64 x = .fin s m e) : x.getLsbD 63 = s ∧ Fmt.f64.Holds m e := by
  have hn : (x.extractLsb' 52 11).toNat ≠ 2 ^ 11 - 1 := fun h' => by
    rw [unpackF64_fields, if_pos (by exact h')] at h
    split at h <;> cases h
  have hz : ¬((x.extractLsb' 52 11).toNat = 0 ∧ (x.extractLsb' 0 52).toNat = 0) := fun ⟨h1, h2⟩ => by
    rw [unpackF64_fields, if_neg (by exact hn), if_pos h1, if_pos h2] at h
    cases h
  obtain ⟨hu, hh, -⟩ := unpackNarrow_cases isNarrow_f64 (s := x.getLsbD 63) (BitVec.isLt _) (BitVec.isLt _) hn hz
  rw [unpackF64_eq, hu] at h
  obtain ⟨hs, hm, he⟩ := Val.fin.inj h
  rw [hm, he] at hh
  exact ⟨hs, hh⟩

theorem unpackF64_zero (s : Bool) : unpackF64 (d64WithSign s d64Zero) = .zero s := by cases s <;> rfl

theorem unpackF64_inf (s : Bool) : unpackF64 (d64WithSign s d64Inf) = .inf s := by cases s <;> rfl

theorem unpackF64_one : unpackF64 d64One = .fin false (2 ^ 52) (-52) := by simp [unpackF64, unpackNarrow]

theorem unpackF64_minusOne : unpackF64 d64MinusOne = .fin true (2 ^ 52) (-52) := by simp [unpackF64, unpackNarrow]

/-- A value of the format is what it was when it is packed and unpacked. -/
theorem unpackF64_packF64 {v : Val} (h : Fmt.f64.IsValue s v) : (v = .inf s → unpackF64 (packF64 v) = .inf s) ∧
    ∀ r, v.IsMagnitude s r → (unpackF64 (packF64 v)).IsMagnitude s r := by
  obtain ⟨hlt, hinf, hmag⟩ := h.unpack_pack isNarrow_f64
  rw [unpackF64, packF64, BitVec.toNat_ofNat, Nat.mod_eq_of_lt hlt]
  exact ⟨hinf, hmag⟩

/-! ## The product -/

/-- The classes of `mulD` whose product needs no rounding. -/
theorem unpackF64_packF64_special (s : Bool) : unpackF64 (packF64 (.zero s)) = .zero s ∧
    unpackF64 (packF64 (.inf s)) = .inf s ∧ (unpackF64 (packF64 (invalidVal .f64).1)).isNan = true := by
  cases s <;> exact ⟨rfl, rfl, rfl⟩

/-- The product of two numbers is rounded once, to nearest even (R402). -/
theorem mulD_isRounded {y l : BitVec 64} (hy : unpackF64 y = .fin s m e) (hl : unpackF64 l = .fin t n g) :
    ∃ fl, IsRounded .f64 .rn (s != t) ((m * (2 : ℝ) ^ e) * (n * (2 : ℝ) ^ g)) (unpackF64 (mulD y l), fl) := by
  obtain ⟨-, hm⟩ := unpackF64_fin hy
  obtain ⟨-, hn⟩ := unpackF64_fin hl
  have hr := (arithmetic_numbers .f64 ⟨.rn, .largerSignificand⟩ s t e g hm.ne_zero hn.ne_zero).1
  rw [abs_mul, abs_signedReal, abs_signedReal] at hr
  obtain ⟨hinf, hmag⟩ := unpackF64_packF64 hr.isValue
  rw [mulD, hy, hl]
  exact ⟨_, hr.of_value hinf hmag⟩

end Sys2Proof.Machine
end

section
/-! The statements of 46_transcendental.md on the instructions with one result: in place, and replacing ST(1) before the
pop (R400, R402 to R405, R407 to R409). -/

namespace Sys2Proof.Machine

variable {s u : State} {w : Word}

/-! ## The evaluation in binary64 -/

theorem Drains.addFx (h : Drains s u w) (f : KFlags) : Drains s (addFx f u) (w ||| latchMask f) := by
  obtain ⟨sw, fx, hw, rfl⟩ := h
  refine ⟨sw, fx.union f, ?_, rfl⟩
  rw [latchMask_union, ← BitVec.or_assoc, hw]
  ac_rfl

/-- A result widened, or INDEF with IE for a NaN (R402). -/
theorem encodes_fromD (h : Drains s u w) (x : BitVec 64) : Encodes s (fromD x u)
    (if (unpackF64 x).isNan then (indef, invalidated w) else (kFromF64 x, w)) :=
  .ite Iff.rfl ⟨rfl, h.latch_IE⟩ ⟨rfl, h⟩

/-- A function of one supported operand: the two screens of NaNs, then the evaluation (R400). -/
theorem encodes_transOne (f : BitVec 64 → BitVec 64) {a : Fx80} (h : a.isUnsupported = false) (s : State) :
    Encodes s (transOne f a s) (transOut f a s) := by
  rw [transOne, if_supported h]
  exact .ite Iff.rfl ⟨rfl, drains_latch_IE s⟩
    (.ite Iff.rfl ⟨rfl, drains_refl s⟩ (encodes_fromD (drains_addFx _ s) _))

/-- The result of a function of two operands under a domain check, which a NaN comes before (R400, R404). -/
def transOutOn (domain : Fx80 → Bool) (f : BitVec 64 → BitVec 64 → BitVec 64) (a b : Fx80) (s : State) : Fx80 × Word :=
  if a.isNan = false ∧ b.isNan = false ∧ domain a = false then (indef, invalidated s.sw) else transOut2 f a b s

theorem transOutOn_everywhere (f : BitVec 64 → BitVec 64 → BitVec 64) (a b : Fx80) (s : State) :
    transOutOn (fun _ => true) f a b s = transOut2 f a b s := if_neg fun h => by cases h.2.2

theorem encodes_transTwo (domain : Fx80 → Bool) (f : BitVec 64 → BitVec 64 → BitVec 64) {a b : Fx80}
    (h : (a.isUnsupported || b.isUnsupported) = false) (s : State) :
    Encodes s (transTwo domain f a b s) (transOutOn domain f a b s) := by
  have hinv : Encodes s (invalidNow s) (indef, invalidated s.sw) := ⟨rfl, drains_latch_IE s⟩
  have heval := encodes_fromD (((drains_addFx (kToF64 s.rm a).2 s)).addFx (kToF64 s.rm b).2)
    (f (kToF64 s.rm a).1 (kToF64 s.rm b).1)
  have hsnan : (a.isSnan || b.isSnan) = true ↔ a.isSnan = true ∨ b.isSnan = true := Bool.or_eq_true_iff
  rw [transTwo, h, if_neg Bool.false_ne_true, transOutOn, transOut2]
  by_cases hn : a.isNan = true ∨ b.isNan = true
  · have hout : ¬(a.isNan = false ∧ b.isNan = false ∧ domain a = false) := by
      rintro ⟨ha, hb, -⟩
      simp [ha, hb] at hn
    rw [if_neg hout, if_pos (Bool.or_eq_true_iff.mpr hn), if_pos hn]
    exact .ite hsnan hinv ⟨rfl, drains_refl s⟩
  · obtain ⟨ha, hb⟩ := not_or.mp hn
    have hs : ¬(a.isSnan = true ∨ b.isSnan = true) := by simp [Fx80.isSnan, ha, hb]
    rw [if_neg (mt hsnan.mp hs), if_neg (mt Bool.or_eq_true_iff.mp hn), if_neg hs, if_neg hn]
    exact .ite (by simp [ha, hb]) hinv heval

/-! ## In place -/

/-- A function of ST(0) in place settles as its result, with the bits of SW cleared that its end clears (R400). -/
theorem settles_transInPlace {i : Instr} {f : BitVec 64 → BitVec 64} {after : State → State} {mask : Word}
    (he : exec i s = finish i (transInPlace f after s)) (hfx : s.fx = KFlags.empty)
    (hok : s.isEmpty 0 = true ∨ (s.st 0).isUnsupported = false)
    (hafter : ∀ v u, after (written 0 v u s) = written 0 v (u &&& mask) s) :
    let out := if s.isEmpty 0 then (indef, underflowed s.sw) else transOut f (s.st 0) s
    settles i s out.2 fun u => written 0 out.1 (u &&& mask) s := by
  intro out
  have henc : Encodes s (storeImage indef (transOne f) s) out :=
    encodes_storeImage fun h0 => encodes_transOne f (hok.resolve_left (Bool.eq_false_iff.mp h0)) s
  have hcomp := computed_storeImage indef _ (computed_transOne f) s
  have hstore : transInPlace f after s =
      funnel (fun v => .done (after (writeStack 0 (storeImage indef (transOne f) s).1 v)))
        (storeImage indef (transOne f) s).2 := rfl
  rw [hstore, henc.image] at he
  refine settles_of_drains he henc.state hfx fun _ => ?_
  rw [writeStack_commit (henc.state.topOf_eq hcomp hfx), hafter]

/-- Settles O49: the result of each function in place, then for `FSIN` and `FCOS` C2 cleared. -/
theorem transcendentalsInPlace : Obligations.TranscendentalsInPlace := by
  intro s hfx hok r hr
  simp only [List.mem_cons, List.not_mem_nil, or_false] at hr
  obtain rfl | rfl | rfl := hr
  · exact settles_transInPlace (after := id) rfl hfx hok fun v u =>
      congrArg (written 0 v · s) (BitVec.and_allOnes (x := u)).symm
  · exact settles_transInPlace (after := clearC2) rfl hfx hok fun _ _ => rfl
  · exact settles_transInPlace (after := clearC2) rfl hfx hok fun _ _ => rfl

/-! ## Replacing ST(1), then the pop -/

/-- A function of ST(0) and ST(1) settles as its result in ST(1) and the pop (R404). -/
theorem settles_transPop {i : Instr} {domain : Fx80 → Bool} {f : BitVec 64 → BitVec 64 → BitVec 64}
    (he : exec i s = finish i (transPop domain f s)) (hfx : s.fx = KFlags.empty)
    (hok : (s.isEmpty 0 || s.isEmpty 1) = true ∨ ((s.st 0).isUnsupported = false ∧ (s.st 1).isUnsupported = false)) :
    let out := if s.isEmpty 0 || s.isEmpty 1 then (indef, underflowed s.sw)
      else transOutOn domain f (s.st 0) (s.st 1) s
    settles i s out.2 fun u => poppedIf true u (written 1 out.1 u s) := by
  intro out
  have henc : Encodes s (binaryResult indef (transTwo domain f) s) out :=
    encodes_binaryResult fun h => encodes_transTwo domain f (supported_of_present hok h) s
  have htop := henc.state.topOf_eq (computed_binaryResult (computed_transTwo domain f) s) hfx
  have hpop : transPop domain f s =
      funnel (fun v => .done (popIf true (writeStack 1 (binaryResult indef (transTwo domain f) s).1 v)))
        (binaryResult indef (transTwo domain f) s).2 := rfl
  rw [hpop, henc.image] at he
  refine settles_of_drains he henc.state hfx fun hp => ?_
  have hw := writeStack_commit (x := out.1) (i := 1) htop
  refine (congrArg (popIf true) hw).trans (popIf_start (s := written 1 _ _ s) true rfl hp fun h0 => ⟨s.sw, ?_⟩)
  have hempty : s.isEmpty 0 = true := (isEmpty_sw htop 0).symm.trans (isEmpty_of_writeStack (hw ▸ h0))
  exact congrArg Prod.snd (if_pos (by rw [hempty, Bool.true_or]))

theorem logDomain_eq_false (a : Fx80) : logDomain a = false ↔ a.sign = true ∨ a.isZero = true := by
  rw [logDomain, Bool.not_eq_false', Bool.or_eq_true]

/-- Settles O50: the product by the classes of its factors; then each instruction by its function and its domain. -/
theorem transcendentalsThatPop : Obligations.TranscendentalsThatPop := by
  constructor
  · intro y l s t m n e g a b p
    have hp {v w : Val} (ha : a = v) (hb : b = w) :
        p = unpackF64 (packF64 (kMul .f64 ⟨.rn, .largerSignificand⟩ v w).1) := by rw [← ha, ← hb]; rfl
    obtain ⟨hzero, hinf, hinvalid⟩ := unpackF64_packF64_special (s != t)
    refine ⟨mulD_isRounded, ?_, ?_, ?_, ?_, ?_, ?_⟩
    · intro ha hb
      rw [hp ha hb]
      exact hinvalid
    · intro ha hb
      rw [hp ha hb]
      exact hinvalid
    · rintro ha (hb | hb) <;> exact (hp ha hb).trans hinf
    · exact fun ha hb => (hp ha hb).trans hinf
    · rintro ha (hb | hb) <;> exact (hp ha hb).trans hzero
    · exact fun ha hb => (hp ha hb).trans hzero
  · intro s hfx a b hok e fault log log1 angle
    have hsupp : e = true ∨ (a.isUnsupported = false ∧ b.isUnsupported = false) := by
      rwa [Bool.or_eq_true, or_assoc]
    have hlog : log = if e then fault else transOutOn logDomain (fun x y => mulD y (transLog2 x)) a b s :=
      if_congr Iff.rfl rfl (if_congr (by rw [logDomain_eq_false]) rfl rfl)
    have htotal (f : BitVec 64 → BitVec 64 → BitVec 64) : (if e then fault else transOut2 f a b s) =
        if e then fault else transOutOn (fun _ => true) f a b s := by rw [transOutOn_everywhere]
    rw [hlog, show log1 = _ from htotal _, show angle = _ from htotal _]
    exact ⟨settles_transPop rfl hfx hsupp, settles_transPop rfl hfx hsupp, settles_transPop rfl hfx hsupp⟩

end Sys2Proof.Machine
end

section
/-! The statement of 46_transcendental.md on the special values of the transcendental functions (R401). -/

namespace Sys2Proof.Machine

variable {x y : BitVec 64} {s t : Bool} {m : ℕ} {e k : ℤ}

/-! ## `TRANS_2XM1` -/

theorem ne_one_of_unpackF64 (h : unpackF64 x ≠ .fin false (2 ^ 52) (-52)) : x ≠ d64One := fun hx =>
  h (hx ▸ unpackF64_one)

theorem ne_minusOne_of_unpackF64 (h : unpackF64 x ≠ .fin true (2 ^ 52) (-52)) : x ≠ d64MinusOne := fun hx =>
  h (hx ▸ unpackF64_minusOne)

theorem trans2xm1_zero (h : unpackF64 x = .zero s) : trans2xm1 x = x := by
  rw [trans2xm1, if_neg (ne_one_of_unpackF64 (by rw [h]; nofun)), h]

theorem trans2xm1_inf (h : unpackF64 x = .inf s) : trans2xm1 x = if s then d64MinusOne else d64Inf := by
  rw [trans2xm1, if_neg (ne_one_of_unpackF64 (by rw [h]; nofun)), h]

theorem trans2xm1_above_range (h : unpackF64 x = .fin false m e) (hx : 1024 ≤ (m : ℝ) * (2 : ℝ) ^ e) :
    trans2xm1 x = d64Inf := by
  have hm : m ≠ 0 := (unpackF64_fin h).2.ne_zero
  have hlog : 10 < floorLog2 m e + 1 := two_zpow_lt.mp (by
    calc (2 : ℝ) ^ (10 : ℤ) = 1024 := by norm_num
      _ ≤ m * (2 : ℝ) ^ e := hx
      _ < _ := (floorLog2_spec hm e).2)
  have hone : x ≠ d64One := ne_one_of_unpackF64 fun h1 => by
    obtain ⟨-, rfl, rfl⟩ := Val.fin.inj (h.symm.trans h1)
    norm_num at hx
  rw [trans2xm1, if_neg hone, h]
  exact if_pos (by omega)

/-! ## `TRANS_LOG2` -/

theorem transLog2_zero (h : unpackF64 x = .zero s) : transLog2 x = d64MinusInf := by rw [transLog2, h]

theorem transLog2_inf (h : unpackF64 x = .inf s) : transLog2 x = if s then d64Nan else d64Inf := by rw [transLog2, h]

theorem transLog2_negative (h : unpackF64 x = .fin true m e) : transLog2 x = d64Nan := by rw [transLog2, h]

/-- Of every word with the sign bit set that is no NaN and no zero. -/
theorem transLog2_of_sign (hs : x.getLsbD 63 = true) (hn : (unpackF64 x).isNan = false)
    (hz : x ≠ d64WithSign true d64Zero) : transLog2 x = d64Nan := by
  cases hu : unpackF64 x with
  | zero s =>
    obtain rfl := eq_zero_of_unpackF64 hu
    cases s with
    | false => exact absurd hs (by decide)
    | true => exact absurd rfl hz
  | inf s =>
    obtain rfl : s = true := (sign_of_unpackF64_inf hu).symm.trans hs
    exact transLog2_inf hu
  | nan => simp [hu, Val.isNan] at hn
  | fin s m e =>
    obtain rfl : s = true := (unpackF64_fin hu).1.symm.trans hs
    exact transLog2_negative hu

/-- A power of two is written with a power of two as its significand, and its logarithm is its exponent. -/
theorem significand_of_power_of_two (hm : m ≠ 0) (h : (m : ℝ) * (2 : ℝ) ^ e = (2 : ℝ) ^ k) :
    m = 2 ^ m.log2 ∧ floorLog2 m e = k := by
  have hlog : floorLog2 m e = k := by
    rw [floorLog2_congr hm one_ne_zero (show (m : ℝ) * (2 : ℝ) ^ e = (1 : ℕ) * (2 : ℝ) ^ k by rw [h]; simp)]
    simp [floorLog2, Nat.log2_def]
  refine ⟨?_, hlog⟩
  have hval : (m : ℝ) = (2 : ℝ) ^ (k - e) := by rw [← two_zpow_div, ← h, mul_div_cancel_right₀ _ (two_zpow_pos e).ne']
  rw [floorLog2] at hlog
  rw [show k - e = (m.log2 : ℤ) by omega, zpow_natCast] at hval
  exact_mod_cast hval

/-- The binary64 word of an integer within the exponent range is that integer. -/
theorem packF64_integer {n : ℕ} (hn : n ≠ 0) (hlt : n < 2 ^ 53) (s : Bool) :
    (unpackF64 (packF64 (.fin s n 0))).IsMagnitude s n := by
  have hlog : n.log2 < 53 := (Nat.log2_lt hn).mpr hlt
  have hh : Fmt.f64.Holds n 0 := ⟨hn, hlt, by decide, by simp only [Fmt.emax]; omega⟩
  exact (unpackF64_packF64 (.inr (.inr ⟨n, 0, n, 0, hh, hn, rfl, rfl⟩))).2 n ⟨rfl, hn, by simp⟩

theorem transLog2_power_of_two (h : unpackF64 x = .fin false m e) (hx : (m : ℝ) * (2 : ℝ) ^ e = (2 : ℝ) ^ k) :
    (unpackF64 (transLog2 x)).IsMagnitude (decide (k < 0)) |(k : ℝ)| := by
  obtain ⟨hm, -, hmin, hmax⟩ := (unpackF64_fin h).2
  obtain ⟨hpow, hlog⟩ := significand_of_power_of_two hm hx
  have htrans : transLog2 x = if k = 0 then d64Zero else packF64 (.fin (decide (k < 0)) k.natAbs 0) := by
    rw [transLog2, h]
    dsimp only
    rw [if_pos hpow, hlog]
  rw [htrans]
  split
  · next h0 =>
    rw [show unpackF64 d64Zero = .zero false from unpackF64_zero false, h0]
    exact ⟨rfl, by simp⟩
  · next h0 =>
    simp only [Fmt.emin, Fmt.emax, Fmt.p] at hmin hmax
    rw [floorLog2] at hlog
    have hmag := packF64_integer (n := k.natAbs) (by omega) (by omega) (decide (k < 0))
    rwa [Nat.cast_natAbs, Int.cast_abs] at hmag

/-! ## `TRANS_LOG2P1` -/

theorem transLog2p1_zero (h : unpackF64 x = .zero s) : transLog2p1 x = x := by
  rw [transLog2p1, if_neg (ne_one_of_unpackF64 (by rw [h]; nofun)),
    if_neg (ne_minusOne_of_unpackF64 (by rw [h]; nofun)), h]

theorem transLog2p1_inf (h : unpackF64 x = .inf s) : transLog2p1 x = if s then d64Nan else d64Inf := by
  rw [transLog2p1, if_neg (ne_one_of_unpackF64 (by rw [h]; nofun)),
    if_neg (ne_minusOne_of_unpackF64 (by rw [h]; nofun)), h]

/-- The words above that of -1 are the numbers below -1, minus infinity and NaNs. -/
theorem unpackF64_below_minusOne (hx : d64MinusOne < x) (hn : (unpackF64 x).isNan = false) :
    unpackF64 x = .inf true ∨ ∃ m e, unpackF64 x = .fin true m e ∧ 0 ≤ floorLog2 m e := by
  have hword : 0xBFF0000000000000 < x.toNat := hx
  have hs : x.getLsbD 63 = true := by
    rw [BitVec.getLsbD, Nat.testBit_eq_decide_div_mod_eq]
    exact decide_eq_true (by omega)
  have hex : 1023 ≤ (x.extractLsb' 52 11).toNat := by
    rw [BitVec.extractLsb'_toNat, Nat.shiftRight_eq_div_pow]
    omega
  have hfrac := (x.extractLsb' 0 52).isLt
  rw [unpackF64_fields, hs] at hn ⊢
  split_ifs at hn ⊢ with htop hz h0
  · exact .inl rfl
  · cases hn
  · omega
  · omega
  · have hlog : (2 ^ 52 + (x.extractLsb' 0 52).toNat).log2 = 52 := (Nat.log2_eq_iff (by omega)).mpr (by omega)
    exact .inr ⟨_, _, rfl, by rw [floorLog2, hlog]; omega⟩

theorem transLog2p1_below_minusOne (hx : d64MinusOne < x) (hn : (unpackF64 x).isNan = false) :
    transLog2p1 x = d64Nan := by
  obtain h | ⟨m, e, h, hlog⟩ := unpackF64_below_minusOne hx hn
  · exact transLog2p1_inf h
  · have hone : x ≠ d64One := ne_one_of_unpackF64 (by rw [h]; nofun)
    have hminusOne : x ≠ d64MinusOne := (BitVec.ne_of_lt hx).symm
    rw [transLog2p1, if_neg hone, if_neg hminusOne, h]
    exact if_pos hlog

/-! ## `TRANS_SIN`, `TRANS_TAN` and `TRANS_COS` -/

theorem oddTrig_zero (f : BitVec 64 → BitVec 64) (h : unpackF64 x = .zero s) : oddTrig f x = x := by rw [oddTrig, h]

theorem oddTrig_inf (f : BitVec 64 → BitVec 64) (h : unpackF64 x = .inf s) : oddTrig f x = d64Nan := by rw [oddTrig, h]

theorem transCos_zero (h : unpackF64 x = .zero s) : transCos x = d64One := by rw [transCos, h]

theorem transCos_inf (h : unpackF64 x = .inf s) : transCos x = d64Nan := by rw [transCos, h]

/-! ## `TRANS_ATAN2` -/

/-- On the axis of `x`, and at its ends: zero, or pi on the negative side. -/
theorem transAtan2_zero (hy : unpackF64 y = .zero s)
    (hx : unpackF64 x = .zero t ∨ unpackF64 x = .inf t ∨ ∃ m e, unpackF64 x = .fin t m e) :
    transAtan2 y x = d64WithSign s (if t then d64Pi else d64Zero) := by
  obtain h | h | ⟨m, e, h⟩ := hx <;> rw [transAtan2, hy, h]

/-- A number against an infinite `x` is on its axis as well. -/
theorem transAtan2_fin_inf (hy : unpackF64 y = .fin s m e) (hx : unpackF64 x = .inf t) :
    transAtan2 y x = d64WithSign s (if t then d64Pi else d64Zero) := by rw [transAtan2, hy, hx]

theorem transAtan2_fin_zero (hy : unpackF64 y = .fin s m e) (hx : unpackF64 x = .zero t) :
    transAtan2 y x = d64WithSign s d64HalfPi := by rw [transAtan2, hy, hx]

theorem transAtan2_inf_inf (hy : unpackF64 y = .inf s) (hx : unpackF64 x = .inf t) :
    transAtan2 y x = d64WithSign s (if t then d64ThreeQuarterPi else d64QuarterPi) := by rw [transAtan2, hy, hx]

theorem transAtan2_inf_zero (hy : unpackF64 y = .inf s) (hx : unpackF64 x = .zero t) :
    transAtan2 y x = d64WithSign s d64HalfPi := by rw [transAtan2, hy, hx]

theorem transAtan2_inf_fin (hy : unpackF64 y = .inf s) (hx : unpackF64 x = .fin t m e) :
    transAtan2 y x = d64WithSign s d64HalfPi := by rw [transAtan2, hy, hx]

/-! ## The table -/

/-- Settles O29: each function by the class of its operand. -/
theorem transcendentalSpecialValues : Obligations.TranscendentalSpecialValues := by
  intro x s z inf minusZero
  have hz : unpackF64 z = .zero s := unpackF64_zero s
  have hi : unpackF64 inf = .inf s := unpackF64_inf s
  have hzero : unpackF64 d64Zero = .zero false := unpackF64_zero false
  have hminusZero : unpackF64 minusZero = .zero true := unpackF64_zero true
  have hinf : unpackF64 d64Inf = .inf false := unpackF64_inf false
  have hminusInf : unpackF64 d64MinusInf = .inf true := unpackF64_inf true
  have hone : transLog2 d64One = d64Zero := by rw [transLog2, unpackF64_one]; rfl
  have hpole : transLog2p1 d64MinusOne = d64MinusInf := by rw [transLog2p1, if_neg (by decide), if_pos rfl]
  have hnan {w : BitVec 64} (h : w = d64Nan) : (unpackF64 w).isNan = true := by rw [h]; decide
  refine ⟨?_, ?_, ?_, ?_, ?_⟩
  · exact ⟨trans2xm1_zero hz, trans2xm1_inf hinf, trans2xm1_inf hminusInf, if_pos rfl,
      fun m e h => trans2xm1_above_range h⟩
  · exact ⟨transLog2_zero hz, transLog2_inf hinf, hone, fun hs hn h => hnan (transLog2_of_sign hs hn h),
      fun m e k h => transLog2_power_of_two h⟩
  · exact ⟨transLog2p1_zero hz, hpole, transLog2p1_inf hinf, if_pos rfl,
      fun hx hn => hnan (transLog2p1_below_minusOne hx hn)⟩
  · exact ⟨oddTrig_zero _ hz, oddTrig_zero _ hz, transCos_zero hz, hnan (oddTrig_inf _ hi), hnan (oddTrig_inf _ hi),
      hnan (transCos_inf hi)⟩
  · refine ⟨transAtan2_zero hz (.inl hzero), transAtan2_zero hz (.inl hminusZero),
      transAtan2_zero hz (.inr (.inl hinf)), transAtan2_zero hz (.inr (.inl hminusInf)), transAtan2_inf_inf hi hinf,
      transAtan2_inf_inf hi hminusInf, transAtan2_inf_zero hi hzero, transAtan2_inf_zero hi hminusZero,
      fun t m e h => ⟨?_, transAtan2_inf_fin hi h⟩, fun m e h => ⟨transAtan2_fin_inf h hinf,
        transAtan2_fin_inf h hminusInf, transAtan2_fin_zero h hzero, transAtan2_fin_zero h hminusZero⟩⟩
    rw [transAtan2_zero hz (.inr (.inr ⟨m, e, h⟩))]
    cases t <;> rfl

end Sys2Proof.Machine
end

section
/-! The statements of 47_control.md: the exchange (R430), the moves of a word (R421 to R423, R431) and the plain control
instructions (R424 to R429). -/

namespace Sys2Proof.Machine

variable {s t u : State} {i : Slot}

/-! ## A register file and a tag word by their slots -/

/-- Two register files with the same slots are the same. -/
theorem regs_ext (h : ∀ p, t.reg p = s.reg p) : t.regs = s.regs :=
  Vector.ext fun k hk => by
    have hslot : (BitVec.ofNat 3 k).toNat = k := Nat.mod_eq_of_lt hk
    simpa only [State.reg, hslot] using h (BitVec.ofNat 3 k)

/-- A tag, bit by bit. -/
theorem tagOfSlot_getLsbD (w : Word) (p : Slot) (k : ℕ) :
    (tagOfSlot w p).getLsbD k = (decide (k < 2) && w.getLsbD (2 * p.toNat + k)) :=
  BitVec.getLsbD_extractLsb' _ _ _ _

/-- Two tag words with the same tags are the same. -/
theorem tagWord_ext {v w : Word} (h : ∀ p, tagOfSlot v p = tagOfSlot w p) : v = w := by
  refine word_ext fun k hk => ?_
  have hslot : (BitVec.ofNat 3 (k / 2)).toNat = k / 2 := Nat.mod_eq_of_lt (by omega)
  have hbit := congrArg (·.getLsbD (k % 2)) (h (BitVec.ofNat 3 (k / 2)))
  simpa only [tagOfSlot_getLsbD, hslot, Nat.div_add_mod, Nat.mod_lt k two_pos, decide_true, Bool.true_and] using hbit

/-! ## The exchange (R430) -/

theorem State.phys_zero (s : State) : s.phys 0 = s.top := BitVec.add_zero _

/-- What ST(i) contributes to the exchange: its value with its tag, an EMPTY one INDEF tagged SPECIAL. -/
def exchanged (i : Slot) (s : State) : Fx80 × BitVec 2 :=
  if s.isEmpty i then (indef, tagSpecial) else (s.st i, s.tag i)

theorem exchanged_occupied (h : s.isEmpty i = false) :
    exchanged i s = (s.reg (s.phys i), tagOfSlot s.tw (s.phys i)) := by
  rw [exchanged, h, if_neg Bool.false_ne_true]
  rfl

/-- `a` put in ST(i) over `b` put in ST(0). -/
def putPair (i : Slot) (a b : Fx80 × BitVec 2) (s : State) : State :=
  setSlot (s.top + i) a.1 a.2 (setSlot s.top b.1 b.2 s)

theorem exchange_eq (i : Slot) (s : State) : exchange i s =
    funnel (fun t => .done (putPair i (exchanged 0 s) (exchanged i s) t)) (checkOperands [0, i] s) := by
  simp only [exchange, putPair, exchanged, apply_ite Prod.fst, apply_ite Prod.snd, State.phys_zero]
  rfl

/-- The exchange settles, with a stack underflow when a side is EMPTY. -/
theorem settles_exchange (i : Slot) (hfx : s.fx = KFlags.empty) :
    settles (.fxch i) s (if s.isEmpty 0 || s.isEmpty i then underflowed s.sw else s.sw) fun u =>
      { s with sw := u,
               regs := (s.regs.set s.top.toNat (exchanged i s).1).set (s.top + i).toNat (exchanged 0 s).1,
               tw := putTag (putTag s.tw s.top (exchanged i s).2) (s.top + i) (exchanged 0 s).2 } := by
  have he : exec (.fxch i) s = finish (.fxch i) (exchange i s) := rfl
  rw [exchange_eq] at he
  have hd := drains_checkOperands [0, i] s
  rw [anyEmpty_pair] at hd
  refine settles_of_drains he hd hfx fun _ => ?_
  have htop := hd.topOf_eq (computed_checkOperands [0, i] s) hfx
  generalize (if s.isEmpty 0 || s.isEmpty i then underflowed s.sw else s.sw) &&& 0xFF7F#16 = u at htop ⊢
  have hs : ({ s with sw := u } : State).top = s.top := htop
  rw [putPair, hs]
  rfl

/-! ## The exchange of two occupied sides -/

/-- Two slots with their values and tags exchanged. -/
def swapSlots (p r : Slot) (s : State) : State :=
  setSlot r (s.reg p) (tagOfSlot s.tw p) (setSlot p (s.reg r) (tagOfSlot s.tw r) s)

/-- A function overwritten at `p`, and then at `r`, with its value at the other is the function after a swap. -/
theorem ite_ite_eq_swap {α : Type} (f : Slot → α) (p r q : Slot) :
    (if q = r then f p else if q = p then f r else f q) = f (Equiv.swap p r q) := by
  rw [Equiv.swap_comm, Equiv.swap_apply_def]
  split_ifs <;> rfl

theorem swapSlots_reg (p r q : Slot) (s : State) : (swapSlots p r s).reg q = s.reg (Equiv.swap p r q) := by
  rw [swapSlots, setSlot_reg, setSlot_reg]
  exact ite_ite_eq_swap s.reg p r q

theorem swapSlots_tag (p r q : Slot) (s : State) :
    tagOfSlot (swapSlots p r s).tw q = tagOfSlot s.tw (Equiv.swap p r q) := by
  rw [swapSlots, setSlot_tag, setSlot_tag]
  exact ite_ite_eq_swap (tagOfSlot s.tw) p r q

/-- `t` is `s` after an exchange of two occupied sides with nothing pending. -/
structure Swapped (i : Slot) (s t : State) : Prop where
  regs : ∀ q, t.reg q = s.reg (Equiv.swap s.top (s.top + i) q)
  tags : ∀ q, tagOfSlot t.tw q = tagOfSlot s.tw (Equiv.swap s.top (s.top + i) q)
  top : t.top = s.top
  fx : t.fx = s.fx
  pending : pendingOf t.cw t.sw = pendingOf s.cw s.sw

theorem exec_fxch_occupied (hfx : s.fx = KFlags.empty) (h0 : s.isEmpty 0 = false) (hi : s.isEmpty i = false)
    (hp : pendingOf s.cw s.sw = 0#6) : ∃ t, exec (.fxch i) s = .next t ∧ Swapped i s t := by
  have hcommit := (settles_exchange i hfx).1
  rw [h0, hi, exchanged_occupied h0, exchanged_occupied hi, s.phys_zero] at hcommit
  exact ⟨_, hcommit hp, fun q => swapSlots_reg s.top (s.top + i) q s, fun q => swapSlots_tag s.top (s.top + i) q s,
    topOf_of_mask (mask_clearES s.sw), rfl, pendingOf_clearES _ _⟩

theorem Swapped.isEmpty_zero (h : Swapped i s t) : t.isEmpty 0 = s.isEmpty i := by
  rw [State.isEmpty, State.tag, t.phys_zero, h.tags, h.top, Equiv.swap_apply_left]
  rfl

theorem Swapped.isEmpty_other (h : Swapped i s t) : t.isEmpty i = s.isEmpty 0 := by
  rw [State.isEmpty, State.isEmpty, State.tag, State.tag, s.phys_zero, State.phys, h.tags, h.top,
    Equiv.swap_apply_right]

/-- Two exchanges cancel. -/
theorem Swapped.cancel (h : Swapped i s t) (g : Swapped i t u) : u.regs = s.regs ∧ u.tw = s.tw :=
  ⟨regs_ext fun q => by rw [g.regs, h.regs, h.top, Equiv.swap_apply_self],
    tagWord_ext fun q => by rw [g.tags, h.tags, h.top, Equiv.swap_apply_self]⟩

/-- Settles O54: the checks and the commit of one exchange; of two, the swaps of the two slots cancel. -/
theorem exchangeSwaps : Obligations.ExchangeSwaps := by
  refine fun i s hfx => ⟨settles_exchange i hfx, fun h0 hi hp => ?_⟩
  obtain ⟨t, ht, hst⟩ := exec_fxch_occupied hfx h0 hi hp
  obtain ⟨u, hu, htu⟩ := exec_fxch_occupied (hst.fx.trans hfx) (hst.isEmpty_zero.trans hi)
    (hst.isEmpty_other.trans h0) (hst.pending.trans hp)
  exact ⟨t, u, ht, hu, hst.cancel htu⟩

/-! ## Moves of a word (R421 to R423, R431) -/

theorem loadCw_readable {m : MemOperand} (h : s.readable m 2) :
    loadCw m s = .done (writeCw (BitVec.ofNat 16 (s.mem.readLE 2 m.ea)) s) :=
  memWord_readable _ _ _ _ h

theorem storeWord_writable {m : MemOperand} (w : Word) (h : s.writable m 2) :
    storeWord w m s = .done { s with mem := s.mem.writeLE 2 m.ea w.toNat } := by
  obtain ⟨hea, hwrite⟩ := h
  rw [storeWord, memDest_open _ _ _ hea, hostWrite_spec, hwrite, if_neg Bool.false_ne_true]

/-- Settles O52: the load installs what it reads, the stores write where the host lets them, and AX takes SW. -/
theorem wordMoves : Obligations.WordMoves := by
  refine fun m s => ⟨fun h => ?_, fun h => ⟨?_, ?_⟩, rfl⟩
  · exact congrArg (finish (.fldcw m)) (loadCw_readable h)
  · exact congrArg (finish (.fstcw m)) (storeWord_writable s.cw h)
  · exact congrArg (finish (.fstswM16 m)) (storeWord_writable s.sw h)

/-! ## Plain control (R424 to R429) -/

/-- A slot freed is EMPTY, and the others keep their tags. -/
theorem ffree_tags (i p : Slot) (s : State) :
    tagOfSlot (putTag s.tw (s.phys i) tagEmpty) p = if p = s.top + i then 3#2 else tagOfSlot s.tw p :=
  tagOfSlot_putTag _ _ _ _

/-- Settles O53: none of the six runs the funnel, so each handler is done with its one update; of a freed slot, the tags
one by one. -/
theorem plainControl : Obligations.PlainControl := by
  intro i s
  have hclex : exec .fclex s = .next (charged .fclex (clearExceptions s)) := finish_done _ _
  have hinit : exec .finit s = .next (charged .finit (initFpu s)) := finish_done _ _
  have hnop : exec .fnop s = .next (charged .fnop s) := finish_done _ _
  have hinc : exec .fincstp s = .next (charged .fincstp (setTop (s.top + 1) s)) := finish_done _ _
  have hdec : exec .fdecstp s = .next (charged .fdecstp (setTop (s.top + 7) s)) := finish_done _ _
  exact ⟨hclex, hinit, hnop, hinc, hdec, _, finish_done _ _, fun p => ffree_tags i p s⟩

end Sys2Proof.Machine
end

section
/-! SUPPORT. `FSAVE` and `FRSTOR` on a host that ends no access: the whole save area stored, and the whole save area
installed (48_environment.md R454 to R456). -/

namespace Sys2Proof.Machine

variable {ea : Addr} {s s' : State}

/-! ## The save area stored -/

/-- Memory with the save area of `s` stored at `ea` (R454, R455). -/
def savedMem (ea : Addr) (s : State) : Memory := storeItems ea (saveItems s) s.mem

/-- What `FSAVE` leaves where the host lets every write through (R455). -/
def saveDone (ea : Addr) (s : State) : State :=
  let t := { s with mem := savedMem ea s }
  if s.params.fsaveReinit then initFpu t else t

theorem saveState_open (ea : Addr) (hg : s.guards = []) : saveState ea s = .done (saveDone ea s) := by
  rw [saveState_eq, hostStores_open fun _ _ => guarded_nil s hg _ _ _, andThen_done]
  rfl

theorem exec_fsave_open (m : MemOperand) (hg : s.guards = []) :
    exec (.fsave m) s = .next (charged (.fsave m) (saveDone m.ea s)) := by
  have he : exec (.fsave m) s = finish (.fsave m) (memDest m s fun ea => saveState ea s) := rfl
  rw [he, memDest_open _ _ _ (guarded_nil s hg _ _ _), saveState_open m.ea hg, finish_done]

theorem saveDone_keeps (h : s.params.fsaveReinit = false) : saveDone ea s = { s with mem := savedMem ea s } :=
  if_neg (Bool.eq_false_iff.mp h)

theorem saveDone_reinit (h : s.params.fsaveReinit = true) :
    saveDone ea s = initFpu { s with mem := savedMem ea s } := if_pos h

/-- The words of `s` stand in `mem` as its environment block at `ea` (R450). -/
structure HoldsEnv (ea : Addr) (s : State) (mem : Memory) : Prop where
  cw : mem.readLE 2 ea = s.cw.toNat
  sw : mem.readLE 2 (ea + s.envSwOffset) = s.sw.toNat
  tw : mem.readLE 2 (ea + 2 * s.envSwOffset) = s.tw.toNat

theorem holdsEnv_storeItems {xs : List Item} (mem : Memory) (hl : Laid xs) (hx : ∀ x ∈ envItems s, x ∈ xs) :
    HoldsEnv ea s (storeItems ea xs mem) := by
  obtain ⟨hcw, hsw, htw⟩ := envItems_readLE mem hl hx
  exact ⟨hcw, hsw, htw⟩

theorem holdsEnv_savedMem (ea : Addr) (s : State) : HoldsEnv ea s (savedMem ea s) :=
  holdsEnv_storeItems s.mem (laid_saveItems s) fun _ => List.mem_append_left _

theorem imageItems_subset_saveItems (s : State) (i : Slot) {x : Item} (hx : x ∈ imageItems s i) : x ∈ saveItems s :=
  List.mem_append_right _ (List.mem_flatMap.mpr ⟨i, mem_stackIndices i, hx⟩)

/-- The image of ST(i), EMPTY or not (R455). -/
theorem savedMem_image (ea : Addr) (s : State) (i : Slot) : (savedMem ea s).read80 (s.imageAddr ea i) = s.st i :=
  imageItems_read80 s.mem (laid_saveItems s) fun _ => imageItems_subset_saveItems s i

/-- The save area ends behind the eight images (R454). -/
theorem saveItems_covers_lt {x : Item} {d : Nat} (hx : x ∈ saveItems s) (hd : x.covers d) : d < s.envSize + 80 := by
  have hhi := hd.2
  rcases List.mem_append.mp hx with hx | hx
  · have hb := envItems_bound hx
    omega
  · obtain ⟨i, _, hx⟩ := List.mem_flatMap.mp hx
    obtain ⟨_, hb⟩ := imageItems_bound hx
    omega

/-- A byte behind the save area, or in its environment block but in none of the words, is as before. -/
theorem savedMem_read_outside {a : Addr} (h : s.envSize + 80 ≤ (a - ea).toNat ∨
    ((a - ea).toNat < s.envSize ∧ isEnvWordByte s.opsize32 (a - ea).toNat = false)) :
    (savedMem ea s).read a = s.mem.read a := by
  refine storeItems_read_outside ea a _ _ (laid_saveItems s).2 fun x hx hcov => ?_
  rcases h with hfar | ⟨hnear, hgap⟩
  · exact absurd (saveItems_covers_lt hx hcov) (Nat.not_lt.mpr hfar)
  · rcases saveItems_covers hx hcov with hword | himage
    · rw [hword] at hgap
      cases hgap
    · exact absurd hnear (Nat.not_lt.mpr himage)

/-! ## The save area installed -/

theorem restoreRegs_open (ea : Addr) (is : List Slot) (hg : s.guards = []) :
    restoreRegs ea is s = .done (installImages ea is s) := by
  induction is generalizing s with
  | nil => rfl
  | cons i rest ih =>
    rw [restoreRegs, hostRead80_allowed (guarded_nil s hg _ _ _) (guarded_nil s hg _ _ _)]
    exact ih hg

/-- What `FRSTOR` leaves where the host lets every read through (R456). -/
def restoreDone (ea : Addr) (s : State) : State := installImages ea stackIndices (envLoaded ea s)

theorem restoreState_open (ea : Addr) (hg : s.guards = []) : restoreState ea s = .done (restoreDone ea s) := by
  rw [restoreState, loadEnv_open ea hg, andThen_done]
  exact restoreRegs_open ea stackIndices hg

theorem exec_frstor_open (m : MemOperand) (hg : s.guards = []) :
    exec (.frstor m) s = .next (charged (.frstor m) (restoreDone m.ea s)) := by
  have he : exec (.frstor m) s = finish (.frstor m) (getEa false m s fun ea => restoreState ea s) := rfl
  rw [he, getEa_open (guarded_nil s hg _ _ _), restoreState_open m.ea hg, finish_done]

/-- Beyond the environment only registers and tags are installed. -/
theorem restoreDone_rest (ea : Addr) (s : State) : restoreDone ea s =
    { envLoaded ea s with regs := (restoreDone ea s).regs, tw := (restoreDone ea s).tw } := installImages_rest _ _

/-- Each register is its image, by the TOP just loaded. -/
theorem restoreDone_reg (ea : Addr) (s : State) (k : Slot) :
    (restoreDone ea s).reg ((envLoaded ea s).phys k) = s.mem.read80 (s.imageAddr ea k) :=
  (installImages_reg stackIndices (envLoaded ea s) k).trans (if_pos (mem_stackIndices k))

/-- Each tag is that of the image, unless the tag just loaded is EMPTY. -/
theorem restoreDone_tag (ea : Addr) (s : State) (k : Slot) :
    tagOfSlot (restoreDone ea s).tw ((envLoaded ea s).phys k) =
      if tagOfSlot (envLoaded ea s).tw ((envLoaded ea s).phys k) = tagEmpty then tagEmpty
      else tagOf (s.mem.read80 (s.imageAddr ea k)) := by
  refine ((installImages_tag stackIndices (envLoaded ea s) k).trans (if_pos (mem_stackIndices k))).trans ?_
  exact if_ctx_congr (isEmpty_iff _ k) (fun _ => rfl) fun _ => rfl

/-! ## The area of another state -/

/-- The environment block of `s`, loaded by a host with the same OPSIZE32. -/
theorem envLoaded_of_holdsEnv (h : HoldsEnv ea s s'.mem) (ho : s'.opsize32 = s.opsize32) :
    envLoaded ea s' = { s' with cw := s.cw, rm := rcTable (rcOf s.cw), sw := s.sw, tw := s.tw } := by
  have hd : s'.envSwOffset = s.envSwOffset := by rw [State.envSwOffset, State.envSwOffset, ho]
  rw [envLoaded, add_envCwOffset, envTwOffset_eq, hd, h.cw, h.sw, h.tw, BitVec.ofNat_toNat, BitVec.ofNat_toNat,
    BitVec.ofNat_toNat, BitVec.setWidth_eq, BitVec.setWidth_eq, BitVec.setWidth_eq]
  rfl

/-- The TOP that `FRSTOR` loads names every slot. -/
theorem exists_phys (s : State) (p : Slot) : ∃ k, s.phys k = p :=
  ⟨p - s.top, by rw [State.phys, BitVec.add_comm, BitVec.sub_add_cancel]⟩

section
variable (hmem : s'.mem = savedMem ea s) (ho : s'.opsize32 = s.opsize32)
include hmem ho

theorem envLoaded_savedMem :
    envLoaded ea s' = { s' with cw := s.cw, rm := rcTable (rcOf s.cw), sw := s.sw, tw := s.tw } :=
  envLoaded_of_holdsEnv (hmem ▸ holdsEnv_savedMem ea s) ho

theorem envLoaded_savedMem_phys (k : Slot) : (envLoaded ea s').phys k = s.phys k := by
  rw [envLoaded_savedMem hmem ho]
  rfl

theorem image_of_savedMem (k : Slot) : s'.mem.read80 (s'.imageAddr ea k) = s.reg (s.phys k) := by
  have himage : s'.imageAddr ea k = s.imageAddr ea k := by
    rw [State.imageAddr, State.imageAddr, State.envSize, State.envSize, ho]
  rw [hmem, himage, savedMem_image]
  rfl

theorem restoreDone_savedMem_regs : (restoreDone ea s').regs = s.regs :=
  regs_ext fun p => by
    obtain ⟨k, rfl⟩ := exists_phys s p
    rw [← envLoaded_savedMem_phys hmem ho, restoreDone_reg, image_of_savedMem hmem ho, envLoaded_savedMem_phys hmem ho]

/-- The tags come back where every tag that is not EMPTY agreed with its value (R458). -/
theorem restoreDone_savedMem_tw (h : s.tagsAgree) : (restoreDone ea s').tw = s.tw :=
  tagWord_ext fun p => by
    obtain ⟨k, rfl⟩ := exists_phys s p
    have htag := restoreDone_tag ea s' k
    rw [envLoaded_savedMem_phys hmem ho, image_of_savedMem hmem ho, envLoaded_savedMem hmem ho] at htag
    rw [htag]
    split
    · next he => exact he.symm
    · next he => exact ((h _).resolve_left he).symm

end

end Sys2Proof.Machine
end

section
/-! The statements of 48_environment.md on the save area (R454 to R458). -/

namespace Sys2Proof.Machine

/-- The size of the environment block as the claims write it. -/
theorem envSize_def (s : State) : (if s.opsize32 then 28 else 14 : Nat) = s.envSize := rfl

/-- Settles O56: the items of the save area stored, each read back, and no byte of another address among them. -/
theorem saveStoresImage : Obligations.SaveStoresImage := by
  intro m s hg
  simp only [envSwOffset_def, envSize_def]
  have henv := holdsEnv_savedMem m.ea s
  refine ⟨savedMem m.ea s, fun h => ?_, fun h => ?_, henv.cw, henv.sw, henv.tw, savedMem_image m.ea s,
    fun a => savedMem_read_outside⟩
  · rw [exec_fsave_open m hg, saveDone_keeps h]
  · rw [exec_fsave_open m hg, saveDone_reinit h]
    rfl

/-- Settles O57: the words read off `envLoaded`, then each register and tag by its image. -/
theorem restoreInstallsImage : Obligations.RestoreInstallsImage := by
  intro m s hg
  have henv : envLoaded m.ea s = { s with
      cw := BitVec.ofNat 16 (s.mem.readLE 2 m.ea), rm := rcTable (rcOf (BitVec.ofNat 16 (s.mem.readLE 2 m.ea))),
      sw := BitVec.ofNat 16 (s.mem.readLE 2 (m.ea + s.envSwOffset)),
      tw := BitVec.ofNat 16 (s.mem.readLE 2 (m.ea + 2 * s.envSwOffset)) } := by
    rw [envLoaded, add_envCwOffset, envTwOffset_eq]
    rfl
  have hreg := restoreDone_reg m.ea s
  have htag := restoreDone_tag m.ea s
  have hexec := exec_frstor_open m hg
  rw [restoreDone_rest, henv] at hexec
  rw [henv] at hreg htag
  exact ⟨_, _, hexec, fun i => ⟨hreg i, htag i⟩⟩

/-- Settles O58: the save area of `s` installed, and the block of `FSTENV` loaded. -/
theorem saveRestoreRoundTrip : Obligations.SaveRestoreRoundTrip := by
  intro m m' s s' t u hg hg' hea ho hmem
  constructor
  · intro hr ht hu
    rw [exec_fsave_open m hg, saveDone_keeps hr] at ht
    cases ht
    rw [exec_frstor_open m' hg', hea, restoreDone_rest, envLoaded_savedMem hmem ho] at hu
    cases hu
    exact ⟨rfl, rfl, restoreDone_savedMem_tw hmem ho, restoreDone_savedMem_regs hmem ho, rfl⟩
  · intro ht hu
    rw [exec_fstenv_open m hg, maskAll_eq] at ht
    rw [exec_fldenv_open m' hg', hea] at hu
    cases ht
    have henv : HoldsEnv m.ea s s'.mem := hmem ▸ holdsEnv_storeItems s.mem (laid_envItems s) fun _ h => h
    rw [envLoaded_of_holdsEnv henv ho] at hu
    cases hu
    exact ⟨rfl, rfl, rfl⟩

end Sys2Proof.Machine
end

section
/-! The statements of 49_host_command_port.md: the commands beside the handlers of their opcodes (R472 to R479), and
`fistp` under a rounding mode of its own (R480). -/

namespace Sys2Proof.Machine

variable {s : State}

/-! ## The commands and the handlers -/

/-- The two ends of a unary operation on ST(0), told apart by what is pending then (44_misc_arith.md R330). -/
theorem unary_cases {f : Fx80 → State → Fx80 × State} (hf : ∀ a t, Computed t (f a t).2) (s : State) :
    ∃ t, (pendingOf t.cw t.sw = 0#6 ∧ unary f s = .done t) ∨
      (pendingOf t.cw t.sw ≠ 0#6 ∧ unary f s = afterRequest t) := by
  have hu : unary f s =
    funnel (fun v => .done (writeStack 0 (storeImage indef f s).1 v)) (storeImage indef f s).2 := rfl
  rw [hu]
  obtain ⟨v, hv, heq⟩ | ⟨v, hv, heq⟩ := funnel_cases (computed_storeImage indef f hf s) fun v =>
    .done (writeStack 0 (storeImage indef f s).1 v)
  · exact ⟨writeStack 0 (storeImage indef f s).1 v, .inl ⟨hv.pending, heq⟩⟩
  · exact ⟨v, .inr ⟨hv.pending, heq⟩⟩

/-- `FRNDINT` is its command with a cycle report, which a failed funnel can lose (70_reset_and_hazards.md R553). -/
theorem exec_frndint (s : State) :
    let t := portStep .frndint s
    exec .frndint s = .next (if pendingOf t.cw t.sw = 0#6 then charged .frndint t else afterTrap .frndint t) := by
  have he : exec .frndint s = finish .frndint (unary rndintOf s) := rfl
  have hp : portStep .frndint s = (unary rndintOf s).state := rfl
  obtain ⟨t, ⟨hnone, ht⟩ | ⟨hsome, ht⟩⟩ := unary_cases computed_rndintOf s
  · rw [he, hp, ht, finish_done]
    exact congrArg _ (if_pos hnone).symm
  · rw [he, hp, ht, finish_afterRequest, afterRequest_state]
    exact congrArg _ (if_neg hsome).symm

/-- Settles O59: each command is the handler without the cycle report, on a host that ends no access for the two with
an address. -/
theorem commandsMatchHandlers : Obligations.CommandsMatchHandlers := by
  intro s v m
  refine ⟨finish_done _ _, finish_done _ _, exec_frndint s, rfl, rfl, rfl, rfl, fun hg => ⟨?_, ?_⟩⟩
  · have hp : portStep (.fsave m.ea) s = (saveState m.ea s).state := rfl
    rw [exec_fsave_open m hg, hp, saveState_open m.ea hg, Ended.state]
  · have hp : portStep (.frstor m.ea) s = (restoreState m.ea s).state := rfl
    rw [exec_frstor_open m hg, hp, restoreState_open m.ea hg, Ended.state]

/-! ## `fistp` (R480) -/

/-- The command under its own rounding mode is in the frame of a command that returns a result. -/
theorem portFistp_cw (w : IntWidth) (rc : BitVec 2) (s : State) : (portFistp w rc s).cw = s.cw :=
  (frame_funnel (p := { port := true }) (computed_intImage w.bits { s with rm := rcTable rc }) fun v _ _ =>
    (frame_returned rfl _ v).trans (frame_pop _)).cw rfl

/-- The image delivered and the pop, or the failed funnel, with RM put back. -/
theorem portFistp_eq (w : IntWidth) (rc : BitVec 2) (hfx : s.fx = KFlags.empty)
    (hok : s.isEmpty 0 = true ∨ (s.st 0).isUnsupported = false) :
    let out := intOut w.bits { s with rm := rcTable rc }
    portFistp w rc s = if pendingOf s.cw out.2 = 0#6
      then poppedIf true (out.2 &&& 0xFF7F#16) { s with portOut := some (out.1.setWidth 64) }
      else suppressed s out.2 := by
  intro out
  let u : State := { s with rm := rcTable rc }
  have henc : Encodes u (intImage w.bits u) out := encodes_int w.bits hok
  have htop : topOf (out.2 &&& 0xFF7F#16) = u.top := henc.state.topOf_eq (computed_intImage w.bits u) hfx
  have hempty : s.isEmpty 0 = true → ∃ sw, out.2 = underflowed sw := fun h0 => ⟨_, congrArg Prod.snd (if_pos h0)⟩
  have hp : portFistp w rc s = { (funnel (fun t => .done (pop (returned (intImage w.bits u).1 t)))
    (intImage w.bits u).2).state with rm := s.rm } := rfl
  rw [hp, henc.image, henc.state.funnel hfx]
  by_cases hpend : pendingOf s.cw out.2 = 0#6
  · rw [if_pos hpend, if_pos (show pendingOf u.cw out.2 = 0#6 from hpend)]
    have hpop := popIf_start (s := returned out.1 u) true htop hpend hempty
    exact congrArg (fun t : State => { t with rm := s.rm }) hpop
  · rw [if_neg hpend, if_neg (show ¬ pendingOf u.cw out.2 = 0#6 from hpend), afterRequest_state]
    rfl

/-- Settles O60: the encoder under the given mode, then the commit of the command or its failed funnel. -/
theorem fistpCommandOverridesRounding : Obligations.FistpCommandOverridesRounding := by
  intro s w rc
  refine ⟨portFistp_cw w rc s, rfl, fun hfx hok => ?_⟩
  have h := portFistp_eq w rc hfx hok
  exact ⟨fun hp => h.trans (if_pos hp), fun hp => h.trans (if_neg hp)⟩

end Sys2Proof.Machine
end

section
/-! SUPPORT. Every funneled instruction as a funnel after checks and computation (40_kernel_and_protocol.md R165, R170),
and the funnel of a state in which an unmasked exception is pending. -/

namespace Sys2Proof.Machine

variable {s t u : State}

/-! ## The form of a funneled handler -/

/-- A handler on `s` that is the funnel after checks and computation: no access of it is ended before. -/
inductive RunsFunnel (s : State) : Ended → Prop
  | intro {c : State → Ended} {u : State} (h : Computed s u) : RunsFunnel s (funnel c u)

theorem RunsFunnel.of_computed {e : Ended} (h : Computed s t) (he : RunsFunnel t e) : RunsFunnel s e := by
  obtain ⟨hu⟩ := he
  exact .intro (h.trans hu)

/-! ## Operands in memory -/

theorem runsFunnel_memWord {n : ℕ} {m : MemOperand} {k : ℕ → Ended} (hg : s.guards = [])
    (hk : ∀ x, RunsFunnel s (k x)) : RunsFunnel s (memWord n m s k) := by
  rw [memWord_readable n m s k ⟨guarded_nil s hg _ _ _, guarded_nil s hg _ _ _⟩]
  exact hk _

theorem runsFunnel_memSource {f : MemSrc} {m : MemOperand} {k : Fx80 → Bool → State → Ended} (hg : s.guards = [])
    (hk : ∀ x b t, RunsFunnel t (k x b t)) : RunsFunnel s (memSource f m s k) :=
  runsFunnel_memWord hg fun _ => (hk _ _ _).of_computed (computed_latchIf_IE _ s)

theorem runsFunnel_memSource80 {m : MemOperand} {k : Fx80 → Ended} (hg : s.guards = [])
    (hk : ∀ x, RunsFunnel s (k x)) : RunsFunnel s (memSource80 m s k) := by
  rw [memSource80_readable m s k ⟨guarded_nil s hg _ _ _, guarded_nil s hg _ _ _, guarded_nil s hg _ _ _⟩]
  exact hk _

/-- A store from ST(0), whatever its encoder and its commit. -/
theorem runsFunnel_store {α : Type} {absent : α} {enc : Fx80 → State → α × State} {m : MemOperand}
    {c : Addr → State → Ended} (hg : s.guards = []) (h : ∀ x t, Computed t (enc x t).2) :
    RunsFunnel s (memDest m s fun ea => funnel (c ea) (storeImage absent enc s).2) := by
  rw [memDest_open _ _ _ (guarded_nil s hg _ _ _)]
  exact .intro (computed_storeImage absent enc h s)

/-! ## The templates of the handlers -/

/-- The checks of the stack operands, then the computation of present ones. -/
theorem computed_checked {α : Type} {is : List Slot} {c : Prop} [Decidable c] {x : α} {r : α × State}
    (h : Computed (checkOperands is s) r.2) : Computed s (if c then (x, checkOperands is s) else r).2 :=
  (computed_checkOperands is s).trans (.ite (.refl _) h)

theorem runsFunnel_load (x : Fx80) (s : State) : RunsFunnel s (load x s) := by
  unfold load
  exact .intro (computed_pushCheck s)

theorem runsFunnel_loadReal (f : MemSrc) (m : MemOperand) (hg : s.guards = []) : RunsFunnel s (loadReal f m s) := by
  refine runsFunnel_memWord hg fun x => ?_
  split
  · exact (runsFunnel_load _ _).of_computed (computed_latch_IE s)
  · exact runsFunnel_load _ _

theorem runsFunnel_loadConst (c : Fx80) (tg : BitVec 2) (s : State) : RunsFunnel s (loadConst c tg s) := by
  unfold loadConst
  exact .intro (computed_pushCheck s)

theorem runsFunnel_storeSt (i : Slot) (p : Bool) (s : State) : RunsFunnel s (storeSt i p s) := by
  unfold storeSt
  exact .intro (computed_storeImage _ _ (fun _ t => .refl t) s)

theorem runsFunnel_arithMem (k : ArithKind) (f : MemSrc) (m : MemOperand) (hg : s.guards = []) :
    RunsFunnel s (arithMem k f m s) := by
  unfold arithMem
  exact runsFunnel_memSource hg fun _ _ _ => .intro (computed_checked (computed_arithResult _ _ _ _))

theorem runsFunnel_arithReg (k : ArithKind) (dst src : Slot) (p : Bool) (s : State) :
    RunsFunnel s (arithReg k dst src p s) := by
  unfold arithReg
  exact .intro (computed_checked (computed_arithResult _ _ _ _))

theorem runsFunnel_unary {f : Fx80 → State → Fx80 × State} (hf : ∀ a t, Computed t (f a t).2) (s : State) :
    RunsFunnel s (unary f s) := by
  unfold unary
  exact .intro (computed_checked (hf _ _))

theorem runsFunnel_scaleTop (s : State) : RunsFunnel s (scaleTop s) := by
  unfold scaleTop
  exact .intro (computed_checked (computed_scaleOf _ _ _))

theorem runsFunnel_premTop (s : State) : RunsFunnel s (premTop s) := by
  unfold premTop
  exact .intro (computed_checked (computed_premOf _ _ _))

theorem runsFunnel_prem1Top (s : State) : RunsFunnel s (prem1Top s) := by
  unfold prem1Top
  split
  · exact .intro (computed_checkOperands [0, 1] s)
  · exact .intro ((computed_checkOperands [0, 1] s).trans (computed_prem1Of _ _ _))

theorem runsFunnel_pairTop {f : Fx80 → State → PairResult} (hf : ∀ a t, Computed t (f a t).state)
    (after : State → State) (s : State) : RunsFunnel s (pairTop after f s) := by
  unfold pairTop pairCommit
  exact .intro (((computed_checkOperands [0] s).trans (.ite (st := PairResult.state) (.refl _) (hf _ _))).trans
    (computed_pushCheck _))

theorem runsFunnel_transInPlace (f : BitVec 64 → BitVec 64) (after : State → State) (s : State) :
    RunsFunnel s (transInPlace f after s) := by
  unfold transInPlace
  exact .intro (computed_checked (computed_transOne _ _ _))

theorem runsFunnel_transPop (domain : Fx80 → Bool) (f : BitVec 64 → BitVec 64 → BitVec 64) (s : State) :
    RunsFunnel s (transPop domain f s) := by
  unfold transPop
  exact .intro (computed_checked (computed_transTwo _ _ _ _ _))

theorem runsFunnel_cmpCommit (d : CmpDest) (n : ℕ) {r : Rel × State} (h : Computed s r.2) :
    RunsFunnel s (cmpCommit d n r) := .intro h

theorem runsFunnel_cmpMem (n : ℕ) (f : MemSrc) (m : MemOperand) (hg : s.guards = []) :
    RunsFunnel s (cmpMem n f m s) :=
  runsFunnel_memSource hg fun _ _ _ => runsFunnel_cmpCommit _ _ (computed_checked (computed_relOf _ _ _ _))

theorem runsFunnel_cmpReg (kind : CmpKind) (d : CmpDest) (n : ℕ) (i : Slot) (s : State) :
    RunsFunnel s (cmpReg kind d n i s) := runsFunnel_cmpCommit d n (computed_checked (computed_relOf _ _ _ _))

theorem runsFunnel_testTop (s : State) : RunsFunnel s (testTop s) :=
  runsFunnel_cmpCommit .codes 0 (computed_checked (computed_relOf _ _ _ _))

theorem runsFunnel_moveIf {c : Cond} (h : c.holds s = true) (i : Slot) : RunsFunnel s (moveIf c i s) := by
  rw [moveIf, if_pos h]
  exact .intro (computed_checkOperands [i] s)

theorem runsFunnel_exchange (i : Slot) (s : State) : RunsFunnel s (exchange i s) := by
  rw [exchange_eq]
  exact .intro (computed_checkOperands [0, i] s)

/-! ## Every funneled instruction -/

/-- `exec` answers what a handler of the funneled form leaves. -/
def ExecRunsFunnel (i : Instr) (s : State) : Prop := ∃ e, exec i s = finish i e ∧ RunsFunnel s e

/-- On a host that ends no access every funneled instruction has the form. -/
theorem exec_runsFunnel {i : Instr} {s : State} (h : i.funneledIn s = true) (hg : s.guards = []) :
    ExecRunsFunnel i s :=
  match i, h with
  | .faddM32real _, _ | .fmulM32real _, _ | .fsubM32real _, _ | .fsubrM32real _, _ | .fdivM32real _, _
  | .fdivrM32real _, _ | .fiaddM32int _, _ | .fimulM32int _, _ | .fisubM32int _, _ | .fisubrM32int _, _
  | .fidivM32int _, _ | .fidivrM32int _, _ | .faddM64real _, _ | .fmulM64real _, _ | .fsubM64real _, _
  | .fsubrM64real _, _ | .fdivM64real _, _ | .fdivrM64real _, _ | .fiaddM16int _, _ | .fimulM16int _, _
  | .fisubM16int _, _ | .fisubrM16int _, _ | .fidivM16int _, _ | .fidivrM16int _, _ =>
    ⟨_, rfl, runsFunnel_arithMem _ _ _ hg⟩
  | .faddStSti _, _ | .fmulStSti _, _ | .fsubStSti _, _ | .fsubrStSti _, _ | .fdivStSti _, _ | .fdivrStSti _, _
  | .faddStiSt _, _ | .fmulStiSt _, _ | .fsubrStiSt _, _ | .fsubStiSt _, _ | .fdivrStiSt _, _ | .fdivStiSt _, _
  | .faddp _, _ | .fmulp _, _ | .fsubrp _, _ | .fsubp _, _ | .fdivrp _, _ | .fdivp _, _ =>
    ⟨_, rfl, runsFunnel_arithReg _ _ _ _ s⟩
  | .fcomM32real _, _ | .fcomM64real _, _ | .ficomM16int _, _ | .ficomM32int _, _ | .fcompM32real _, _
  | .fcompM64real _, _ | .ficompM16int _, _ | .ficompM32int _, _ => ⟨_, rfl, runsFunnel_cmpMem _ _ _ hg⟩
  | .fcomSti _, _ | .fucom _, _ | .fcomi _, _ | .fucomi _, _ | .fcompSti _, _ | .fucomp _, _ | .fcomip _, _
  | .fucomip _, _ | .fcompp, _ | .fucompp, _ => ⟨_, rfl, runsFunnel_cmpReg _ _ _ _ s⟩
  | .ftst, _ => ⟨_, rfl, runsFunnel_testTop s⟩
  | .fcmovb _, h => ⟨_, rfl, runsFunnel_moveIf (c := .b) h _⟩
  | .fcmove _, h => ⟨_, rfl, runsFunnel_moveIf (c := .e) h _⟩
  | .fcmovbe _, h => ⟨_, rfl, runsFunnel_moveIf (c := .be) h _⟩
  | .fcmovu _, h => ⟨_, rfl, runsFunnel_moveIf (c := .u) h _⟩
  | .fcmovnb _, h => ⟨_, rfl, runsFunnel_moveIf (c := .nb) h _⟩
  | .fcmovne _, h => ⟨_, rfl, runsFunnel_moveIf (c := .ne) h _⟩
  | .fcmovnbe _, h => ⟨_, rfl, runsFunnel_moveIf (c := .nbe) h _⟩
  | .fcmovnu _, h => ⟨_, rfl, runsFunnel_moveIf (c := .nu) h _⟩
  | .fldM32real _, _ | .fldM64real _, _ => ⟨_, rfl, runsFunnel_loadReal _ _ hg⟩
  | .fildM16int _, _ | .fildM32int _, _ | .fildM64int _, _ =>
    ⟨_, rfl, runsFunnel_memSource hg fun _ _ _ => runsFunnel_load _ _⟩
  | .fldM80real _, _ | .fbld _, _ => ⟨_, rfl, runsFunnel_memSource80 hg fun _ => runsFunnel_load _ s⟩
  | .fldSti j, _ => ⟨_, rfl, (runsFunnel_load _ _).of_computed (computed_checkOperands [j] s)⟩
  | .fld1, _ | .fldz, _ | .fldpi, _ | .fldl2t, _ | .fldl2e, _ | .fldlg2, _ | .fldln2, _ =>
    ⟨_, rfl, runsFunnel_loadConst _ _ s⟩
  | .fstM32real _, _ | .fstpM32real _, _ => ⟨_, rfl, runsFunnel_store hg computed_encF32⟩
  | .fstM64real _, _ | .fstpM64real _, _ => ⟨_, rfl, runsFunnel_store hg computed_encF64⟩
  | .fstpM80real _, _ => ⟨_, rfl, runsFunnel_store hg fun _ t => .refl t⟩
  | .fstSti _, _ | .fstpSti _, _ => ⟨_, rfl, runsFunnel_storeSt _ _ s⟩
  | .fistM16int _, _ | .fistM32int _, _ | .fistpM16int _, _ | .fistpM32int _, _ | .fistpM64int _, _ =>
    ⟨_, rfl, runsFunnel_store hg (computed_encInt _)⟩
  | .fbstp _, _ => ⟨_, rfl, runsFunnel_store hg computed_bcdImage⟩
  | .fchs, _ | .fabs, _ => ⟨_, rfl, runsFunnel_unary (fun _ t => .refl t) s⟩
  | .fsqrt, _ => ⟨_, rfl, runsFunnel_unary computed_sqrtOf s⟩
  | .frndint, _ => ⟨_, rfl, runsFunnel_unary computed_rndintOf s⟩
  | .fscale, _ => ⟨_, rfl, runsFunnel_scaleTop s⟩
  | .fxtract, _ => ⟨_, rfl, runsFunnel_pairTop computed_extractOf _ s⟩
  | .fprem, _ => ⟨_, rfl, runsFunnel_premTop s⟩
  | .fprem1, _ => ⟨_, rfl, runsFunnel_prem1Top s⟩
  | .f2xm1, _ | .fsin, _ | .fcos, _ => ⟨_, rfl, runsFunnel_transInPlace _ _ s⟩
  | .fyl2x, _ | .fyl2xp1, _ | .fpatan, _ => ⟨_, rfl, runsFunnel_transPop _ _ s⟩
  | .fptan, _ => ⟨_, rfl, runsFunnel_pairTop computed_tanOf _ s⟩
  | .fsincos, _ => ⟨_, rfl, runsFunnel_pairTop computed_sincosOf _ s⟩
  | .fxch _, _ => ⟨_, rfl, runsFunnel_exchange _ s⟩

/-! ## A pending exception -/

/-- Checks and computation clear no latch, so what is pending stays so (10_state.md R26). -/
theorem Latched.pending {cw v w : Word} (h : Latched v w) (hp : pendingOf cw v ≠ 0#6) : pendingOf cw w ≠ 0#6 :=
  fun hw => hp ((pendingOf_eq_zero_iff cw v).mpr fun k hk hv =>
    (pendingOf_eq_zero_iff cw w).mp hw k hk (h.grows k (by omega) hv))

/-- Above the latches only C1 may differ. -/
theorem Latched.xor_mask {v w : Word} (h : Latched v w) : (w ^^^ v) &&& 0xFD80#16 = 0#16 := by
  have hbits : ∀ k < 16, (0xFD80#16).getLsbD k = true → 7 ≤ k ∧ k ≠ 9 := by decide
  refine word_ext fun k hk => ?_
  rw [BitVec.getLsbD_and, BitVec.getLsbD_xor, BitVec.getLsbD_zero]
  cases hb : (0xFD80#16).getLsbD k with
  | false => exact Bool.and_false _
  | true =>
    obtain ⟨h7, h9⟩ := hbits k hk hb
    rw [h.same k (.inr h7) h9, Bool.xor_self, Bool.false_and]

/-- No latch is cleared. -/
theorem Latched.and_not_mask {v w : Word} (h : Latched v w) : v &&& 0x007F#16 &&& ~~~w = 0#16 := by
  have hbits : ∀ k < 16, (0x007F#16).getLsbD k = true → k < 7 := by decide
  refine word_ext fun k hk => ?_
  rw [BitVec.getLsbD_and, BitVec.getLsbD_and, BitVec.getLsbD_not, BitVec.getLsbD_zero]
  cases hv : v.getLsbD k with
  | false => rw [Bool.false_and, Bool.false_and]
  | true =>
    cases hb : (0x007F#16).getLsbD k with
    | false => rw [Bool.and_false, Bool.false_and]
    | true => rw [h.grows k (hbits k hk hb) hv, Bool.not_true, Bool.and_false, Bool.and_false]

/-- With an unmasked exception pending the funnel fails, whatever the computation found (R165, R172). -/
theorem RunsFunnel.suppressed {e : Ended} (h : RunsFunnel s e) (hfx : s.fx = KFlags.empty)
    (hp : pendingOf s.cw s.sw ≠ 0#6) :
    ∃ w n, Latched s.sw w ∧ e = afterRequest { suppressed s w with free := n } := by
  obtain ⟨sw, fx, n, hl, rfl⟩ := h
  have hw : Latched s.sw (sw ||| latchMask fx) := hl.trans (latched_latchMask sw fx)
  refine ⟨_, n, hw, ?_⟩
  rw [funnel_spec, if_neg (hw.pending hp), ← hfx]
  rfl

end Sys2Proof.Machine
end

section
/-! The statements of 60_exceptions.md and 70_reset_and_hazards.md: a pending exception, the stops of a step, and
`reset()`. -/

namespace Sys2Proof.Machine

variable {s : State}

/-- Settles O16: a funneled handler is a funnel, and fails with what was pending. -/
theorem pendingExceptionSuppresses : Obligations.PendingExceptionSuppresses := by
  intro i s h hfx hg hp
  obtain ⟨e, he, hf⟩ := exec_runsFunnel h hg
  obtain ⟨w, n, hl, rfl⟩ := hf.suppressed hfx hp
  exact ⟨w, n, he.trans (finish_afterRequest i _), hl.xor_mask, hl.and_not_mask⟩

/-! ## The stops of a step -/

/-- The bytes that are no escape byte (30_encoding.md R100). -/
theorem groupOf_eq_none_iff (esc : Byte) : groupOf esc = none ↔ esc < 0xD8#8 ∨ 0xDF#8 < esc := by
  revert esc; decide

/-- The two ways of the decoder to reject (30_encoding.md R100, R114). -/
theorem decode_cases (x : Located) : (∃ i, decode x = .instr i) ∨
    (∃ g, x.esc = escByte g ∧ invalidEntry g x.modrm = true ∧ decode x = .reject (.fatalDecode g x.modrm)) ∨
    ((x.esc < 0xD8#8 ∨ 0xDF#8 < x.esc) ∧ decode x = .reject (.notEscape x.esc)) := by
  obtain ⟨esc, modrm, ea⟩ := x
  cases hg : groupOf esc with
  | none => exact .inr (.inr ⟨(groupOf_eq_none_iff esc).mp hg, by simp only [decode, hg]⟩)
  | some g =>
    obtain rfl := eq_escByte_of_groupOf hg
    cases hd : dispatch g modrm ea with
    | some i => exact .inl ⟨i, decode_of_dispatch hd⟩
    | none =>
      have hr : decode ⟨escByte g, modrm, ea⟩ = .reject (.fatalDecode g modrm) :=
        (decode_eq_fatalDecode_iff g modrm ea).mpr (by rw [hd]; rfl)
      exact .inr (.inl ⟨g, rfl, (fatalDecodeExactly g modrm ea).mp hr, hr⟩)

/-- A step on rejected bytes. -/
theorem step_reject {x : Located} {e : DecodeError} (hx : s.stream[s.pos]? = some (.insn x))
    (hd : decode x = .reject e) : step s = rejected e := by
  unfold step fetch
  simp only [hx, hd]

theorem step_invalidEntry {x : Located} {g : BitVec 3} (hx : s.stream[s.pos]? = some (.insn x))
    (hesc : x.esc = escByte g) (hi : invalidEntry g x.modrm = true) : step s = .fault (.fatalDecode g x.modrm) := by
  obtain ⟨esc, modrm, ea⟩ := x
  obtain rfl := hesc
  exact step_reject hx ((fatalDecodeExactly g modrm ea).mpr hi)

theorem step_notEscape {x : Located} (hx : s.stream[s.pos]? = some (.insn x)) (h : x.esc < 0xD8#8 ∨ 0xDF#8 < x.esc) :
    step s = .refused (.notEscape x.esc) := by
  have hg := (groupOf_eq_none_iff x.esc).mpr h
  have hd : decode x = .reject (.notEscape x.esc) := by simp only [decode, hg]
  exact step_reject hx hd

/-- Settles O6: by the kind of the call at the position; of an instruction, by what the decoder answers. -/
theorem stepStopsOnlyOnBadBytes : Obligations.StepStopsOnlyOnBadBytes := by
  intro s
  refine ⟨fun x hx => ⟨fun g => step_invalidEntry hx, step_notEscape hx⟩, ?_⟩
  obtain ⟨hinsn, hport, hevent, hnone⟩ := stepRunsTheNextCall s
  cases hcall : s.stream[s.pos]? with
  | none => exact .inl ⟨_, hnone hcall⟩
  | some call =>
    cases call with
    | port c => exact .inl ⟨_, hport c hcall⟩
    | event e => exact .inl ⟨_, hevent e hcall⟩
    | insn x =>
      obtain ⟨i, hd⟩ | ⟨g, hesc, hi, -⟩ | ⟨hesc, -⟩ := decode_cases x
      · obtain ⟨t, ht, -⟩ := exec_frame i s.begin
        exact .inl ⟨t, (hinsn x i hcall hd).trans ht⟩
      · exact .inr (.inl ⟨x, g, rfl, hesc, hi, step_invalidEntry hcall hesc hi⟩)
      · exact .inr (.inr ⟨x, rfl, hesc, step_notEscape hcall hesc⟩)

/-! ## Reset (70_reset_and_hazards.md R540) -/

/-- `reset()` writes CW through `write_cw`, so RM is the mode of its RC field. -/
theorem resetFpu_eq (s : State) : resetFpu s =
    { s with cw := 0x037F#16, sw := 0x0000#16, tw := 0xFFFF#16, fip := 0, fdp := 0, fop := 0, fx := KFlags.empty,
             rm := .rn } := rfl

/-- Settles O9: the one update of `reset()`, which finds the reset state as it leaves it. -/
theorem resetValues : Obligations.ResetValues := ⟨resetFpu_eq, resetFpu_eq State.reset⟩

end Sys2Proof.Machine
end
